-- ==== Sys2Proof/Word.lean ====
section
/-! DEFINITION. The two word types of the SM83 core (spec/00_scope.md R4): 8-bit registers and memory
cells, 16-bit addresses, pairs, SP and PC. The helpers over them stand in Machine/Bits.lean. -/

namespace Sys2Proof

/-- An 8-bit register or memory cell (R4). -/
abbrev Byte := BitVec 8

/-- A 16-bit address, register pair, SP or PC (R4). -/
abbrev Word := BitVec 16

end Sys2Proof
end

