-- ==== Sys2Proof/Machine/Bits.lean ====
section
/-! DEFINITION. The bit-field, concatenation and extension helpers of the spec's notation (spec/00_scope.md R7). -/

namespace Sys2Proof

/-- `v[15:8]` of a 16-bit value (R7). -/
def hi8 (w : Word) : Byte := w.extractLsb' 8 8

/-- `v[7:0]` of a 16-bit value (R7). -/
def lo8 (w : Word) : Byte := w.extractLsb' 0 8

/-- `{hi, lo}`: concatenation, the first in the more significant position (R7). -/
def pair16 (hi lo : Byte) : Word := (hi ++ lo : BitVec (8 + 8))

/-- `sext_16(v)`: `{8 copies of v[7], v}` (R7). -/
def sext16 (b : Byte) : Word := b.signExtend 16

/-- The low nibble `v[3:0]` as an untruncated number (R7). -/
def nibble (b : Byte) : Nat := b.toNat % 16

/-- The address `{0xFF, v}` of the high page (spec/30_encoding.md R78, `a8`). -/
def highPage (b : Byte) : Word := pair16 0xFF#8 b

end Sys2Proof
end

