-- ==== Sys2Proof/Config.lean ====
section
/-! DEFINITION. What is fixed for one machine and what stays free (spec/00_scope.md R5): the reset parameters'
preset, the collaborator's answers, and the byte that an unlisted memory cell holds. -/

namespace Sys2Proof

/-- The register values after reset, parameters of the core (spec/00_scope.md R5; spec/10_state.md R30). The low
nibble of `f` is masked when the parameter is loaded (R12), as R30 asks `RESET_F[3:0] = 0`. -/
structure ResetParams where
  pc : Word
  sp : Word
  a : Byte
  f : Byte
  b : Byte
  c : Byte
  d : Byte
  e : Byte
  h : Byte
  l : Byte
  deriving DecidableEq, Repr

/-- One access the router hands to the external port (spec/20_memory.md R47): a read with the byte the
collaborator answered, or a write with the byte handed over. -/
inductive ExtAccess where
  | read (a : Word) (answer : Byte)
  | write (a : Word) (v : Byte)
  deriving DecidableEq, Repr

namespace Config

/-- The preset that `State.reset` uses: the default of spec/92_eei_decisions.md's open-parameter table.
DESIGN CHOICE (notes/assumptions/1.md): spec/10_state.md R30 leaves every one of these values open. -/
def resetDefault : ResetParams where
  pc := 0x0100#16
  sp := 0xFFFE#16
  a := 0x00#8
  f := 0x00#8
  b := 0x00#8
  c := 0x00#8
  d := 0x00#8
  e := 0x00#8
  h := 0x00#8
  l := 0x00#8

/-- What a memory cell reads as that memory does not list.
DESIGN CHOICE (notes/assumptions/2.md): the contents of ROM are a parameter and those of RAM at power-on are
indeterminate; any contents are reached by listing them in `State.mem`. -/
def unlistedByte : Byte := 0x00#8

/-- FREE VALUE: the byte an attached collaborator answers to a read of the address, after the accesses it has seen
so far, newest first. It has no body, since the core assumes nothing of the byte: spec/20_memory.md R47;
notes/assumptions/3.md. -/
opaque extAnswer : List ExtAccess → Word → Byte

end Config

end Sys2Proof
end

