-- ==== Sys2Proof/Machine/State.lean ====
section
/-! DEFINITION. The state of the SM83 core (spec/10_state.md), the reasons a step can stop, and the state after
reset. Plain data. -/

namespace Sys2Proof.Machine

/-- The run state (spec/10_state.md R22). `locked` is the non-recoverable state an illegal opcode leaves. -/
inductive RunState where
  | normal
  | halted
  | stopped
  | locked
  deriving DecidableEq, Repr

/-- The external port (spec/20_memory.md R47): no collaborator attached, or one that has seen these accesses,
newest first. The history is the collaborator's state, not the core's. -/
inductive ExtPort where
  | absent
  | attached (history : List ExtAccess)
  deriving DecidableEq, Repr

/-- The core's one exception (spec/60_exceptions.md R310). -/
inductive Fault where
  /-- Raised by the eleven illegal bytes (spec/46_system.md R275). It is a report in the step's result
  (`StepOut.report`), and the machine goes on in the run state `locked`, so no step ends in `Outcome.fault`.
  Safe: the state it goes with is never a successful end (`Safety`). -/
  | invalidOpcode (op : Byte)
  deriving DecidableEq, Repr

/-- Why a request has no meaning. -/
inductive Refusal where
  /-- An instruction without a meaning yet. No arm of `exec` answers it in this model. Safe. -/
  | notModelled (mnemonic : String)
  /-- Raised by the driver's `DeliverInterrupt` when IME is 0 or the run state is neither Normal nor Halted: "refused"
  (spec/60_exceptions.md R301, R304). Safe: the move is not performed and the state does not change. -/
  | deliveryNotPermitted
  /-- Raised by the driver's `Wake` when the run state is Normal or Locked: "refused" (spec/60_exceptions.md R301,
  R303). Safe: the move is not performed and the state does not change. -/
  | wakeNotPermitted
  deriving DecidableEq, Repr

/-- What a step hands back beside the new state (spec/30_encoding.md R71): the bytes consumed, the cycle cost, and
the InvalidOpcode report if one was raised. -/
structure StepOut where
  length : Nat
  cycles : Nat
  report : Option Fault
  deriving DecidableEq, Repr

/-- Everything the spec gives the machine. The fields `a` to `imePending` and the RAM part of `mem` are the core's
state (spec/10_state.md R10 to R29); the ROM part of `mem`, `ext` and `params` are its parameters (spec/00_scope.md
R5), held here as plain data that no step changes but for the collaborator's history; `out` is the latest step's
output. -/
structure State where
  a : Byte
  f : Byte
  b : Byte
  c : Byte
  d : Byte
  e : Byte
  h : Byte
  l : Byte
  sp : Word
  pc : Word
  run : RunState
  ime : Bool
  imePending : Bool
  mem : List Host.Cell
  ext : ExtPort
  params : ResetParams
  out : StepOut
  deriving DecidableEq, Repr

/-- The state after reset for any reset parameters, memory contents and port (spec/10_state.md R30;
spec/70_reset_and_hazards.md R340). `F` is loaded with its low nibble zero (R12). The cleared `out` is a
DESIGN CHOICE (notes/assumptions/4.md). -/
def State.powerOn (p : ResetParams) (mem : List Host.Cell) (ext : ExtPort) : State where
  a := p.a
  f := p.f &&& 0xF0#8
  b := p.b
  c := p.c
  d := p.d
  e := p.e
  h := p.h
  l := p.l
  sp := p.sp
  pc := p.pc
  run := .normal
  ime := false
  imePending := false
  mem := mem
  ext := ext
  params := p
  out := { length := 0, cycles := 0, report := none }

/-- The machine right after reset: Normal, IME and IME_pending 0 (R30), the registers at the preset of
`Config.resetDefault`, nothing listed in memory, no collaborator attached. -/
def State.reset : State := State.powerOn Config.resetDefault [] .absent

end Sys2Proof.Machine
end

