-- ==== Sys2Proof/Machine/Memory.lean ====
section
/-! DEFINITION. Memory as a canonical list of cells, and the address router (spec/20_memory.md). -/

namespace Sys2Proof.Machine

namespace Memory

/-- The byte of the cell with this key; an unlisted cell reads as `Config.unlistedByte`. -/
def get : List Host.Cell → Nat → Byte
  | [], _ => Config.unlistedByte
  | (k, v) :: rest, i => if k = i then v else get rest i

/-- Store a byte in the cell with this key, keeping the canonical form: keys strictly rising, no entry equal to what
an unlisted cell reads as. -/
def set : List Host.Cell → Nat → Byte → List Host.Cell
  | [], i, x => if x = Config.unlistedByte then [] else [(i, x)]
  | (k, v) :: rest, i, x =>
    if i < k then (if x = Config.unlistedByte then (k, v) :: rest else (i, x) :: (k, v) :: rest)
    else if i = k then (if x = Config.unlistedByte then rest else (i, x) :: rest)
    else (k, v) :: set rest i x

/-- The canonical form from a lower bound on the keys. -/
def wfFrom : Nat → List Host.Cell → Bool
  | _, [] => true
  | lo, (k, v) :: rest => decide (lo ≤ k) && (v != Config.unlistedByte) && wfFrom (k + 1) rest

/-- The canonical form: keys strictly rising, no entry equal to what an unlisted cell reads as. -/
def wf (m : List Host.Cell) : Bool := wfFrom 0 m

/-- The keys of the cells that exist: the ROM window, working RAM and high RAM (spec/20_memory.md R42, R48, R49). -/
def isCell (k : Nat) : Bool :=
  decide (k < 0x8000) || (decide (0xC000 ≤ k) && decide (k < 0xE000)) || (decide (0xFF80 ≤ k) && decide (k < 0xFFFF))

/-- Every listed key is that of a cell that exists. -/
def inCells (m : List Host.Cell) : Bool := m.all fun c => isCell c.1

end Memory

/-- Where the router sends an address (spec/20_memory.md R43): a ROM cell, a RAM cell, or the external port. A
cell's key is its address; an echo address has the key of the working RAM cell it names (R45). -/
inductive Route where
  | rom (k : Nat)
  | ram (k : Nat)
  | ext
  deriving DecidableEq, Repr

/-- The router's table (spec/20_memory.md R43, R44, R56). -/
def route (a : Word) : Route :=
  let k := a.toNat
  if k < 0x8000 then .rom k
  else if k < 0xC000 then .ext
  else if k < 0xE000 then .ram k
  else if k < 0xFE00 then .ram (k - 0x2000)
  else if k < 0xFF80 then .ext
  else if k < 0xFFFF then .ram k
  else .ext

/-- `ExtRead(a)` (spec/20_memory.md R47): 0xFF with no collaborator; else the collaborator's free answer, and the
collaborator has seen the read. -/
def extRead (s : State) (a : Word) : Byte × State :=
  match s.ext with
  | .absent => (0xFF#8, s)
  | .attached hist =>
    (Config.extAnswer hist a, { s with ext := .attached (.read a (Config.extAnswer hist a) :: hist) })

/-- `ExtWrite(a, v)` (spec/20_memory.md R47): nothing with no collaborator; else the write is handed to it. -/
def extWrite (s : State) (a : Word) (v : Byte) : State :=
  match s.ext with
  | .absent => s
  | .attached hist => { s with ext := .attached (.write a v :: hist) }

/-- `MemRead(addr, 1)` (spec/20_memory.md R43). -/
def memRead (s : State) (a : Word) : Byte × State :=
  match route a with
  | .rom k => (Memory.get s.mem k, s)
  | .ram k => (Memory.get s.mem k, s)
  | .ext => extRead s a

/-- `MemWrite(addr, 1, v)` (spec/20_memory.md R44): a write to ROM is dropped (R42). -/
def memWrite (s : State) (a : Word) (v : Byte) : State :=
  match route a with
  | .rom _ => s
  | .ram k => { s with mem := Memory.set s.mem k v }
  | .ext => extWrite s a v

/-- The byte the next `MemRead(a, 1)` would give. -/
def peek (s : State) (a : Word) : Byte := (memRead s a).1

/-- `MemRead(addr, 2)` (spec/20_memory.md R50): little-endian, the low-address byte first, `addr + 1` wrapping. -/
def memRead16 (s : State) (a : Word) : Word × State :=
  let lo := memRead s a
  let hi := memRead lo.2 (a + 1#16)
  (pair16 hi.1 lo.1, hi.2)

/-- `MemWrite(addr, 2, v)` (spec/20_memory.md R51): the low byte at `addr` first, then the high byte at `addr + 1`. -/
def memWrite16 (s : State) (a : Word) (v : Word) : State :=
  memWrite (memWrite s a (lo8 v)) (a + 1#16) (hi8 v)

/-- Place a byte in the cell an address names, ROM included: building the machine with a program in it, not an access
of the core (spec/00_scope.md R8). An external address has no cell. -/
def loadByte (s : State) (a : Word) (v : Byte) : State :=
  match route a with
  | .rom k => { s with mem := Memory.set s.mem k v }
  | .ram k => { s with mem := Memory.set s.mem k v }
  | .ext => s

end Sys2Proof.Machine
end

