-- ==== Sys2Proof/Syntax.lean ====
section
/-! DEFINITION. The instruction set as syntax: the operand classes of spec/30_encoding.md R73 to R77, and one
constructor of `Instr` per row of spec/opcode_table.json. -/

namespace Sys2Proof

/-- The seven 8-bit registers a 3-bit `r8` field names (R74); F is not among them. -/
inductive R8 where
  | b
  | c
  | d
  | e
  | h
  | l
  | a
  deriving DecidableEq, Repr

/-- What a 3-bit `r8` field selects: a register, or (code 6) the memory byte at HL (R74). -/
inductive Loc where
  | reg (r : R8)
  | atHL
  deriving DecidableEq, Repr

/-- The register pairs of the 2-bit field `r16` (R75, first column). -/
inductive R16 where
  | bc
  | de
  | hl
  | sp
  deriving DecidableEq, Repr

/-- The register pairs of the 2-bit field `r16stk` (R75, second column). -/
inductive R16Stk where
  | bc
  | de
  | hl
  | af
  deriving DecidableEq, Repr

/-- The addresses of the 2-bit field `r16mem` (R75, third column). -/
inductive R16Mem where
  | bc
  | de
  | hlInc
  | hlDec
  deriving DecidableEq, Repr

/-- The condition codes (R77). -/
inductive Cond where
  | nz
  | z
  | nc
  | c
  deriving DecidableEq, Repr

/-- The accumulator operations (R76 (a)). -/
inductive AluOp where
  | add
  | adc
  | sub
  | sbc
  | and
  | xor
  | or
  | cp
  deriving DecidableEq, Repr

/-- The rotate and shift operations (R76 (b)). -/
inductive RotOp where
  | rlc
  | rrc
  | rl
  | rr
  | sla
  | sra
  | swap
  | srl
  deriving DecidableEq, Repr

/-- The instructions, one constructor per row of spec/opcode_table.json. An immediate is the operand's bits: `n` a
byte or a 16-bit value, `a` an address or address offset, `e` the byte of a signed displacement (R78). The
second byte of `STOP` is an operand that nothing reads (spec/92_eei_decisions.md D5). The rows with an operand
stand first: Lean's runtime numbers constructors that carry data up to 244 only. -/
inductive Instr where
  /-- `LD BC,n16` (R134) -/
  | ldBCN16 (n : Word)
  /-- `LD B,n8` (R101) -/
  | ldBN8 (n : Byte)
  /-- `LD (a16),SP` (R135) -/
  | ldMemA16SP (a : Word)
  /-- `LD C,n8` (R101) -/
  | ldCN8 (n : Byte)
  /-- `STOP` (R272) -/
  | stop (n : Byte)
  /-- `LD DE,n16` (R134) -/
  | ldDEN16 (n : Word)
  /-- `LD D,n8` (R101) -/
  | ldDN8 (n : Byte)
  /-- `JR e8` (R254) -/
  | jrE8 (e : Byte)
  /-- `LD E,n8` (R101) -/
  | ldEN8 (n : Byte)
  /-- `JR NZ,e8` (R255) -/
  | jrNZE8 (e : Byte)
  /-- `LD HL,n16` (R134) -/
  | ldHLN16 (n : Word)
  /-- `LD H,n8` (R101) -/
  | ldHN8 (n : Byte)
  /-- `JR Z,e8` (R255) -/
  | jrZE8 (e : Byte)
  /-- `LD L,n8` (R101) -/
  | ldLN8 (n : Byte)
  /-- `JR NC,e8` (R255) -/
  | jrNCE8 (e : Byte)
  /-- `LD SP,n16` (R134) -/
  | ldSPN16 (n : Word)
  /-- `LD (HL),n8` (R104) -/
  | ldMemHLN8 (n : Byte)
  /-- `JR C,e8` (R255) -/
  | jrCE8 (e : Byte)
  /-- `LD A,n8` (R101) -/
  | ldAN8 (n : Byte)
  /-- `JP NZ,a16` (R252) -/
  | jpNZA16 (a : Word)
  /-- `JP a16` (R251) -/
  | jpA16 (a : Word)
  /-- `CALL NZ,a16` (R257) -/
  | callNZA16 (a : Word)
  /-- `ADD A,n8` (R162) -/
  | addAN8 (n : Byte)
  /-- `JP Z,a16` (R252) -/
  | jpZA16 (a : Word)
  /-- `CALL Z,a16` (R257) -/
  | callZA16 (a : Word)
  /-- `CALL a16` (R256) -/
  | callA16 (a : Word)
  /-- `ADC A,n8` (R165) -/
  | adcAN8 (n : Byte)
  /-- `JP NC,a16` (R252) -/
  | jpNCA16 (a : Word)
  /-- `CALL NC,a16` (R257) -/
  | callNCA16 (a : Word)
  /-- `SUB A,n8` (R168) -/
  | subAN8 (n : Byte)
  /-- `JP C,a16` (R252) -/
  | jpCA16 (a : Word)
  /-- `CALL C,a16` (R257) -/
  | callCA16 (a : Word)
  /-- `SBC A,n8` (R171) -/
  | sbcAN8 (n : Byte)
  /-- `LDH (a8),A` (R113) -/
  | ldhMemA8A (a : Byte)
  /-- `AND A,n8` (R174) -/
  | andAN8 (n : Byte)
  /-- `ADD SP,e8` (R205) -/
  | addSPE8 (e : Byte)
  /-- `LD (a16),A` (R110) -/
  | ldMemA16A (a : Word)
  /-- `XOR A,n8` (R177) -/
  | xorAN8 (n : Byte)
  /-- `LDH A,(a8)` (R112) -/
  | ldhAMemA8 (a : Byte)
  /-- `OR A,n8` (R180) -/
  | orAN8 (n : Byte)
  /-- `LD HL,SP+e8` (R137) -/
  | ldHLSPE8 (e : Byte)
  /-- `LD A,(a16)` (R109) -/
  | ldAMemA16 (a : Word)
  /-- `CP A,n8` (R183) -/
  | cpAN8 (n : Byte)
  /-- `NOP` (R270) -/
  | nop
  /-- `LD (BC),A` (R107) -/
  | ldMemBCA
  /-- `INC BC` (R203) -/
  | incBC
  /-- `INC B` (R184) -/
  | incB
  /-- `DEC B` (R186) -/
  | decB
  /-- `RLCA` (R211) -/
  | rlca
  /-- `ADD HL,BC` (R202) -/
  | addHLBC
  /-- `LD A,(BC)` (R105) -/
  | ldAMemBC
  /-- `DEC BC` (R204) -/
  | decBC
  /-- `INC C` (R184) -/
  | incC
  /-- `DEC C` (R186) -/
  | decC
  /-- `RRCA` (R212) -/
  | rrca
  /-- `LD (DE),A` (R108) -/
  | ldMemDEA
  /-- `INC DE` (R203) -/
  | incDE
  /-- `INC D` (R184) -/
  | incD
  /-- `DEC D` (R186) -/
  | decD
  /-- `RLA` (R213) -/
  | rla
  /-- `ADD HL,DE` (R202) -/
  | addHLDE
  /-- `LD A,(DE)` (R106) -/
  | ldAMemDE
  /-- `DEC DE` (R204) -/
  | decDE
  /-- `INC E` (R184) -/
  | incE
  /-- `DEC E` (R186) -/
  | decE
  /-- `RRA` (R214) -/
  | rra
  /-- `LD (HL+),A` (R116) -/
  | ldMemHLIncA
  /-- `INC HL` (R203) -/
  | incHL
  /-- `INC H` (R184) -/
  | incH
  /-- `DEC H` (R186) -/
  | decH
  /-- `DAA` (R188) -/
  | daa
  /-- `ADD HL,HL` (R202) -/
  | addHLHL
  /-- `LD A,(HL+)` (R118) -/
  | ldAMemHLInc
  /-- `DEC HL` (R204) -/
  | decHL
  /-- `INC L` (R184) -/
  | incL
  /-- `DEC L` (R186) -/
  | decL
  /-- `CPL` (R189) -/
  | cpl
  /-- `LD (HL-),A` (R117) -/
  | ldMemHLDecA
  /-- `INC SP` (R203) -/
  | incSP
  /-- `INC (HL)` (R185) -/
  | incMemHL
  /-- `DEC (HL)` (R187) -/
  | decMemHL
  /-- `SCF` (R190) -/
  | scf
  /-- `ADD HL,SP` (R202) -/
  | addHLSP
  /-- `LD A,(HL-)` (R119) -/
  | ldAMemHLDec
  /-- `DEC SP` (R204) -/
  | decSP
  /-- `INC A` (R184) -/
  | incA
  /-- `DEC A` (R186) -/
  | decA
  /-- `CCF` (R191) -/
  | ccf
  /-- `LD B,B` (R100) -/
  | ldBB
  /-- `LD B,C` (R100) -/
  | ldBC
  /-- `LD B,D` (R100) -/
  | ldBD
  /-- `LD B,E` (R100) -/
  | ldBE
  /-- `LD B,H` (R100) -/
  | ldBH
  /-- `LD B,L` (R100) -/
  | ldBL
  /-- `LD B,(HL)` (R102) -/
  | ldBMemHL
  /-- `LD B,A` (R100) -/
  | ldBA
  /-- `LD C,B` (R100) -/
  | ldCB
  /-- `LD C,C` (R100) -/
  | ldCC
  /-- `LD C,D` (R100) -/
  | ldCD
  /-- `LD C,E` (R100) -/
  | ldCE
  /-- `LD C,H` (R100) -/
  | ldCH
  /-- `LD C,L` (R100) -/
  | ldCL
  /-- `LD C,(HL)` (R102) -/
  | ldCMemHL
  /-- `LD C,A` (R100) -/
  | ldCA
  /-- `LD D,B` (R100) -/
  | ldDB
  /-- `LD D,C` (R100) -/
  | ldDC
  /-- `LD D,D` (R100) -/
  | ldDD
  /-- `LD D,E` (R100) -/
  | ldDE
  /-- `LD D,H` (R100) -/
  | ldDH
  /-- `LD D,L` (R100) -/
  | ldDL
  /-- `LD D,(HL)` (R102) -/
  | ldDMemHL
  /-- `LD D,A` (R100) -/
  | ldDA
  /-- `LD E,B` (R100) -/
  | ldEB
  /-- `LD E,C` (R100) -/
  | ldEC
  /-- `LD E,D` (R100) -/
  | ldED
  /-- `LD E,E` (R100) -/
  | ldEE
  /-- `LD E,H` (R100) -/
  | ldEH
  /-- `LD E,L` (R100) -/
  | ldEL
  /-- `LD E,(HL)` (R102) -/
  | ldEMemHL
  /-- `LD E,A` (R100) -/
  | ldEA
  /-- `LD H,B` (R100) -/
  | ldHB
  /-- `LD H,C` (R100) -/
  | ldHC
  /-- `LD H,D` (R100) -/
  | ldHD
  /-- `LD H,E` (R100) -/
  | ldHE
  /-- `LD H,H` (R100) -/
  | ldHH
  /-- `LD H,L` (R100) -/
  | ldHL
  /-- `LD H,(HL)` (R102) -/
  | ldHMemHL
  /-- `LD H,A` (R100) -/
  | ldHA
  /-- `LD L,B` (R100) -/
  | ldLB
  /-- `LD L,C` (R100) -/
  | ldLC
  /-- `LD L,D` (R100) -/
  | ldLD
  /-- `LD L,E` (R100) -/
  | ldLE
  /-- `LD L,H` (R100) -/
  | ldLH
  /-- `LD L,L` (R100) -/
  | ldLL
  /-- `LD L,(HL)` (R102) -/
  | ldLMemHL
  /-- `LD L,A` (R100) -/
  | ldLA
  /-- `LD (HL),B` (R103) -/
  | ldMemHLB
  /-- `LD (HL),C` (R103) -/
  | ldMemHLC
  /-- `LD (HL),D` (R103) -/
  | ldMemHLD
  /-- `LD (HL),E` (R103) -/
  | ldMemHLE
  /-- `LD (HL),H` (R103) -/
  | ldMemHLH
  /-- `LD (HL),L` (R103) -/
  | ldMemHLL
  /-- `HALT` (R271) -/
  | halt
  /-- `LD (HL),A` (R103) -/
  | ldMemHLA
  /-- `LD A,B` (R100) -/
  | ldAB
  /-- `LD A,C` (R100) -/
  | ldAC
  /-- `LD A,D` (R100) -/
  | ldAD
  /-- `LD A,E` (R100) -/
  | ldAE
  /-- `LD A,H` (R100) -/
  | ldAH
  /-- `LD A,L` (R100) -/
  | ldAL
  /-- `LD A,(HL)` (R102) -/
  | ldAMemHL
  /-- `LD A,A` (R100) -/
  | ldAA
  /-- `ADD A,B` (R160) -/
  | addAB
  /-- `ADD A,C` (R160) -/
  | addAC
  /-- `ADD A,D` (R160) -/
  | addAD
  /-- `ADD A,E` (R160) -/
  | addAE
  /-- `ADD A,H` (R160) -/
  | addAH
  /-- `ADD A,L` (R160) -/
  | addAL
  /-- `ADD A,(HL)` (R161) -/
  | addAMemHL
  /-- `ADD A,A` (R160) -/
  | addAA
  /-- `ADC A,B` (R163) -/
  | adcAB
  /-- `ADC A,C` (R163) -/
  | adcAC
  /-- `ADC A,D` (R163) -/
  | adcAD
  /-- `ADC A,E` (R163) -/
  | adcAE
  /-- `ADC A,H` (R163) -/
  | adcAH
  /-- `ADC A,L` (R163) -/
  | adcAL
  /-- `ADC A,(HL)` (R164) -/
  | adcAMemHL
  /-- `ADC A,A` (R163) -/
  | adcAA
  /-- `SUB A,B` (R166) -/
  | subAB
  /-- `SUB A,C` (R166) -/
  | subAC
  /-- `SUB A,D` (R166) -/
  | subAD
  /-- `SUB A,E` (R166) -/
  | subAE
  /-- `SUB A,H` (R166) -/
  | subAH
  /-- `SUB A,L` (R166) -/
  | subAL
  /-- `SUB A,(HL)` (R167) -/
  | subAMemHL
  /-- `SUB A,A` (R166) -/
  | subAA
  /-- `SBC A,B` (R169) -/
  | sbcAB
  /-- `SBC A,C` (R169) -/
  | sbcAC
  /-- `SBC A,D` (R169) -/
  | sbcAD
  /-- `SBC A,E` (R169) -/
  | sbcAE
  /-- `SBC A,H` (R169) -/
  | sbcAH
  /-- `SBC A,L` (R169) -/
  | sbcAL
  /-- `SBC A,(HL)` (R170) -/
  | sbcAMemHL
  /-- `SBC A,A` (R169) -/
  | sbcAA
  /-- `AND A,B` (R172) -/
  | andAB
  /-- `AND A,C` (R172) -/
  | andAC
  /-- `AND A,D` (R172) -/
  | andAD
  /-- `AND A,E` (R172) -/
  | andAE
  /-- `AND A,H` (R172) -/
  | andAH
  /-- `AND A,L` (R172) -/
  | andAL
  /-- `AND A,(HL)` (R173) -/
  | andAMemHL
  /-- `AND A,A` (R172) -/
  | andAA
  /-- `XOR A,B` (R175) -/
  | xorAB
  /-- `XOR A,C` (R175) -/
  | xorAC
  /-- `XOR A,D` (R175) -/
  | xorAD
  /-- `XOR A,E` (R175) -/
  | xorAE
  /-- `XOR A,H` (R175) -/
  | xorAH
  /-- `XOR A,L` (R175) -/
  | xorAL
  /-- `XOR A,(HL)` (R176) -/
  | xorAMemHL
  /-- `XOR A,A` (R175) -/
  | xorAA
  /-- `OR A,B` (R178) -/
  | orAB
  /-- `OR A,C` (R178) -/
  | orAC
  /-- `OR A,D` (R178) -/
  | orAD
  /-- `OR A,E` (R178) -/
  | orAE
  /-- `OR A,H` (R178) -/
  | orAH
  /-- `OR A,L` (R178) -/
  | orAL
  /-- `OR A,(HL)` (R179) -/
  | orAMemHL
  /-- `OR A,A` (R178) -/
  | orAA
  /-- `CP A,B` (R181) -/
  | cpAB
  /-- `CP A,C` (R181) -/
  | cpAC
  /-- `CP A,D` (R181) -/
  | cpAD
  /-- `CP A,E` (R181) -/
  | cpAE
  /-- `CP A,H` (R181) -/
  | cpAH
  /-- `CP A,L` (R181) -/
  | cpAL
  /-- `CP A,(HL)` (R182) -/
  | cpAMemHL
  /-- `CP A,A` (R181) -/
  | cpAA
  /-- `RET NZ` (R259) -/
  | retNZ
  /-- `POP BC` (R140) -/
  | popBC
  /-- `PUSH BC` (R138) -/
  | pushBC
  /-- `RST 0x00` (R262) -/
  | rst00
  /-- `RET Z` (R259) -/
  | retZ
  /-- `RET` (R258) -/
  | ret
  /-- `RST 0x08` (R262) -/
  | rst08
  /-- `RET NC` (R259) -/
  | retNC
  /-- `POP DE` (R140) -/
  | popDE
  /-- illegal byte 0xD3 (R275) -/
  | illegalD3
  /-- `PUSH DE` (R138) -/
  | pushDE
  /-- `RST 0x10` (R262) -/
  | rst10
  /-- `RET C` (R259) -/
  | retC
  /-- `RETI` (R260) -/
  | reti
  /-- illegal byte 0xDB (R275) -/
  | illegalDB
  /-- illegal byte 0xDD (R275) -/
  | illegalDD
  /-- `RST 0x18` (R262) -/
  | rst18
  /-- `POP HL` (R140) -/
  | popHL
  /-- `LDH (C),A` (R115) -/
  | ldhMemCA
  /-- illegal byte 0xE3 (R275) -/
  | illegalE3
  /-- illegal byte 0xE4 (R275) -/
  | illegalE4
  /-- `PUSH HL` (R138) -/
  | pushHL
  /-- `RST 0x20` (R262) -/
  | rst20
  /-- `JP HL` (R253) -/
  | jpHL
  /-- illegal byte 0xEB (R275) -/
  | illegalEB
  /-- illegal byte 0xEC (R275) -/
  | illegalEC
  /-- illegal byte 0xED (R275) -/
  | illegalED
  /-- `RST 0x28` (R262) -/
  | rst28
  /-- `POP AF` (R139) -/
  | popAF
  /-- `LDH A,(C)` (R114) -/
  | ldhAMemC
  /-- `DI` (R273) -/
  | di
  /-- illegal byte 0xF4 (R275) -/
  | illegalF4
  /-- `PUSH AF` (R138) -/
  | pushAF
  /-- `RST 0x30` (R262) -/
  | rst30
  /-- `LD SP,HL` (R136) -/
  | ldSPHL
  /-- `EI` (R274) -/
  | ei
  /-- illegal byte 0xFC (R275) -/
  | illegalFC
  /-- illegal byte 0xFD (R275) -/
  | illegalFD
  /-- `RST 0x38` (R262) -/
  | rst38
  /-- `RLC B` (R215) -/
  | cbRlcB
  /-- `RLC C` (R215) -/
  | cbRlcC
  /-- `RLC D` (R215) -/
  | cbRlcD
  /-- `RLC E` (R215) -/
  | cbRlcE
  /-- `RLC H` (R215) -/
  | cbRlcH
  /-- `RLC L` (R215) -/
  | cbRlcL
  /-- `RLC (HL)` (R216) -/
  | cbRlcMemHL
  /-- `RLC A` (R215) -/
  | cbRlcA
  /-- `RRC B` (R217) -/
  | cbRrcB
  /-- `RRC C` (R217) -/
  | cbRrcC
  /-- `RRC D` (R217) -/
  | cbRrcD
  /-- `RRC E` (R217) -/
  | cbRrcE
  /-- `RRC H` (R217) -/
  | cbRrcH
  /-- `RRC L` (R217) -/
  | cbRrcL
  /-- `RRC (HL)` (R218) -/
  | cbRrcMemHL
  /-- `RRC A` (R217) -/
  | cbRrcA
  /-- `RL B` (R219) -/
  | cbRlB
  /-- `RL C` (R219) -/
  | cbRlC
  /-- `RL D` (R219) -/
  | cbRlD
  /-- `RL E` (R219) -/
  | cbRlE
  /-- `RL H` (R219) -/
  | cbRlH
  /-- `RL L` (R219) -/
  | cbRlL
  /-- `RL (HL)` (R220) -/
  | cbRlMemHL
  /-- `RL A` (R219) -/
  | cbRlA
  /-- `RR B` (R221) -/
  | cbRrB
  /-- `RR C` (R221) -/
  | cbRrC
  /-- `RR D` (R221) -/
  | cbRrD
  /-- `RR E` (R221) -/
  | cbRrE
  /-- `RR H` (R221) -/
  | cbRrH
  /-- `RR L` (R221) -/
  | cbRrL
  /-- `RR (HL)` (R222) -/
  | cbRrMemHL
  /-- `RR A` (R221) -/
  | cbRrA
  /-- `SLA B` (R223) -/
  | cbSlaB
  /-- `SLA C` (R223) -/
  | cbSlaC
  /-- `SLA D` (R223) -/
  | cbSlaD
  /-- `SLA E` (R223) -/
  | cbSlaE
  /-- `SLA H` (R223) -/
  | cbSlaH
  /-- `SLA L` (R223) -/
  | cbSlaL
  /-- `SLA (HL)` (R224) -/
  | cbSlaMemHL
  /-- `SLA A` (R223) -/
  | cbSlaA
  /-- `SRA B` (R225) -/
  | cbSraB
  /-- `SRA C` (R225) -/
  | cbSraC
  /-- `SRA D` (R225) -/
  | cbSraD
  /-- `SRA E` (R225) -/
  | cbSraE
  /-- `SRA H` (R225) -/
  | cbSraH
  /-- `SRA L` (R225) -/
  | cbSraL
  /-- `SRA (HL)` (R226) -/
  | cbSraMemHL
  /-- `SRA A` (R225) -/
  | cbSraA
  /-- `SWAP B` (R227) -/
  | cbSwapB
  /-- `SWAP C` (R227) -/
  | cbSwapC
  /-- `SWAP D` (R227) -/
  | cbSwapD
  /-- `SWAP E` (R227) -/
  | cbSwapE
  /-- `SWAP H` (R227) -/
  | cbSwapH
  /-- `SWAP L` (R227) -/
  | cbSwapL
  /-- `SWAP (HL)` (R228) -/
  | cbSwapMemHL
  /-- `SWAP A` (R227) -/
  | cbSwapA
  /-- `SRL B` (R229) -/
  | cbSrlB
  /-- `SRL C` (R229) -/
  | cbSrlC
  /-- `SRL D` (R229) -/
  | cbSrlD
  /-- `SRL E` (R229) -/
  | cbSrlE
  /-- `SRL H` (R229) -/
  | cbSrlH
  /-- `SRL L` (R229) -/
  | cbSrlL
  /-- `SRL (HL)` (R230) -/
  | cbSrlMemHL
  /-- `SRL A` (R229) -/
  | cbSrlA
  /-- `BIT 0,B` (R231) -/
  | bit0B
  /-- `BIT 0,C` (R231) -/
  | bit0C
  /-- `BIT 0,D` (R231) -/
  | bit0D
  /-- `BIT 0,E` (R231) -/
  | bit0E
  /-- `BIT 0,H` (R231) -/
  | bit0H
  /-- `BIT 0,L` (R231) -/
  | bit0L
  /-- `BIT 0,(HL)` (R232) -/
  | bit0MemHL
  /-- `BIT 0,A` (R231) -/
  | bit0A
  /-- `BIT 1,B` (R231) -/
  | bit1B
  /-- `BIT 1,C` (R231) -/
  | bit1C
  /-- `BIT 1,D` (R231) -/
  | bit1D
  /-- `BIT 1,E` (R231) -/
  | bit1E
  /-- `BIT 1,H` (R231) -/
  | bit1H
  /-- `BIT 1,L` (R231) -/
  | bit1L
  /-- `BIT 1,(HL)` (R232) -/
  | bit1MemHL
  /-- `BIT 1,A` (R231) -/
  | bit1A
  /-- `BIT 2,B` (R231) -/
  | bit2B
  /-- `BIT 2,C` (R231) -/
  | bit2C
  /-- `BIT 2,D` (R231) -/
  | bit2D
  /-- `BIT 2,E` (R231) -/
  | bit2E
  /-- `BIT 2,H` (R231) -/
  | bit2H
  /-- `BIT 2,L` (R231) -/
  | bit2L
  /-- `BIT 2,(HL)` (R232) -/
  | bit2MemHL
  /-- `BIT 2,A` (R231) -/
  | bit2A
  /-- `BIT 3,B` (R231) -/
  | bit3B
  /-- `BIT 3,C` (R231) -/
  | bit3C
  /-- `BIT 3,D` (R231) -/
  | bit3D
  /-- `BIT 3,E` (R231) -/
  | bit3E
  /-- `BIT 3,H` (R231) -/
  | bit3H
  /-- `BIT 3,L` (R231) -/
  | bit3L
  /-- `BIT 3,(HL)` (R232) -/
  | bit3MemHL
  /-- `BIT 3,A` (R231) -/
  | bit3A
  /-- `BIT 4,B` (R231) -/
  | bit4B
  /-- `BIT 4,C` (R231) -/
  | bit4C
  /-- `BIT 4,D` (R231) -/
  | bit4D
  /-- `BIT 4,E` (R231) -/
  | bit4E
  /-- `BIT 4,H` (R231) -/
  | bit4H
  /-- `BIT 4,L` (R231) -/
  | bit4L
  /-- `BIT 4,(HL)` (R232) -/
  | bit4MemHL
  /-- `BIT 4,A` (R231) -/
  | bit4A
  /-- `BIT 5,B` (R231) -/
  | bit5B
  /-- `BIT 5,C` (R231) -/
  | bit5C
  /-- `BIT 5,D` (R231) -/
  | bit5D
  /-- `BIT 5,E` (R231) -/
  | bit5E
  /-- `BIT 5,H` (R231) -/
  | bit5H
  /-- `BIT 5,L` (R231) -/
  | bit5L
  /-- `BIT 5,(HL)` (R232) -/
  | bit5MemHL
  /-- `BIT 5,A` (R231) -/
  | bit5A
  /-- `BIT 6,B` (R231) -/
  | bit6B
  /-- `BIT 6,C` (R231) -/
  | bit6C
  /-- `BIT 6,D` (R231) -/
  | bit6D
  /-- `BIT 6,E` (R231) -/
  | bit6E
  /-- `BIT 6,H` (R231) -/
  | bit6H
  /-- `BIT 6,L` (R231) -/
  | bit6L
  /-- `BIT 6,(HL)` (R232) -/
  | bit6MemHL
  /-- `BIT 6,A` (R231) -/
  | bit6A
  /-- `BIT 7,B` (R231) -/
  | bit7B
  /-- `BIT 7,C` (R231) -/
  | bit7C
  /-- `BIT 7,D` (R231) -/
  | bit7D
  /-- `BIT 7,E` (R231) -/
  | bit7E
  /-- `BIT 7,H` (R231) -/
  | bit7H
  /-- `BIT 7,L` (R231) -/
  | bit7L
  /-- `BIT 7,(HL)` (R232) -/
  | bit7MemHL
  /-- `BIT 7,A` (R231) -/
  | bit7A
  /-- `RES 0,B` (R233) -/
  | res0B
  /-- `RES 0,C` (R233) -/
  | res0C
  /-- `RES 0,D` (R233) -/
  | res0D
  /-- `RES 0,E` (R233) -/
  | res0E
  /-- `RES 0,H` (R233) -/
  | res0H
  /-- `RES 0,L` (R233) -/
  | res0L
  /-- `RES 0,(HL)` (R234) -/
  | res0MemHL
  /-- `RES 0,A` (R233) -/
  | res0A
  /-- `RES 1,B` (R233) -/
  | res1B
  /-- `RES 1,C` (R233) -/
  | res1C
  /-- `RES 1,D` (R233) -/
  | res1D
  /-- `RES 1,E` (R233) -/
  | res1E
  /-- `RES 1,H` (R233) -/
  | res1H
  /-- `RES 1,L` (R233) -/
  | res1L
  /-- `RES 1,(HL)` (R234) -/
  | res1MemHL
  /-- `RES 1,A` (R233) -/
  | res1A
  /-- `RES 2,B` (R233) -/
  | res2B
  /-- `RES 2,C` (R233) -/
  | res2C
  /-- `RES 2,D` (R233) -/
  | res2D
  /-- `RES 2,E` (R233) -/
  | res2E
  /-- `RES 2,H` (R233) -/
  | res2H
  /-- `RES 2,L` (R233) -/
  | res2L
  /-- `RES 2,(HL)` (R234) -/
  | res2MemHL
  /-- `RES 2,A` (R233) -/
  | res2A
  /-- `RES 3,B` (R233) -/
  | res3B
  /-- `RES 3,C` (R233) -/
  | res3C
  /-- `RES 3,D` (R233) -/
  | res3D
  /-- `RES 3,E` (R233) -/
  | res3E
  /-- `RES 3,H` (R233) -/
  | res3H
  /-- `RES 3,L` (R233) -/
  | res3L
  /-- `RES 3,(HL)` (R234) -/
  | res3MemHL
  /-- `RES 3,A` (R233) -/
  | res3A
  /-- `RES 4,B` (R233) -/
  | res4B
  /-- `RES 4,C` (R233) -/
  | res4C
  /-- `RES 4,D` (R233) -/
  | res4D
  /-- `RES 4,E` (R233) -/
  | res4E
  /-- `RES 4,H` (R233) -/
  | res4H
  /-- `RES 4,L` (R233) -/
  | res4L
  /-- `RES 4,(HL)` (R234) -/
  | res4MemHL
  /-- `RES 4,A` (R233) -/
  | res4A
  /-- `RES 5,B` (R233) -/
  | res5B
  /-- `RES 5,C` (R233) -/
  | res5C
  /-- `RES 5,D` (R233) -/
  | res5D
  /-- `RES 5,E` (R233) -/
  | res5E
  /-- `RES 5,H` (R233) -/
  | res5H
  /-- `RES 5,L` (R233) -/
  | res5L
  /-- `RES 5,(HL)` (R234) -/
  | res5MemHL
  /-- `RES 5,A` (R233) -/
  | res5A
  /-- `RES 6,B` (R233) -/
  | res6B
  /-- `RES 6,C` (R233) -/
  | res6C
  /-- `RES 6,D` (R233) -/
  | res6D
  /-- `RES 6,E` (R233) -/
  | res6E
  /-- `RES 6,H` (R233) -/
  | res6H
  /-- `RES 6,L` (R233) -/
  | res6L
  /-- `RES 6,(HL)` (R234) -/
  | res6MemHL
  /-- `RES 6,A` (R233) -/
  | res6A
  /-- `RES 7,B` (R233) -/
  | res7B
  /-- `RES 7,C` (R233) -/
  | res7C
  /-- `RES 7,D` (R233) -/
  | res7D
  /-- `RES 7,E` (R233) -/
  | res7E
  /-- `RES 7,H` (R233) -/
  | res7H
  /-- `RES 7,L` (R233) -/
  | res7L
  /-- `RES 7,(HL)` (R234) -/
  | res7MemHL
  /-- `RES 7,A` (R233) -/
  | res7A
  /-- `SET 0,B` (R235) -/
  | set0B
  /-- `SET 0,C` (R235) -/
  | set0C
  /-- `SET 0,D` (R235) -/
  | set0D
  /-- `SET 0,E` (R235) -/
  | set0E
  /-- `SET 0,H` (R235) -/
  | set0H
  /-- `SET 0,L` (R235) -/
  | set0L
  /-- `SET 0,(HL)` (R236) -/
  | set0MemHL
  /-- `SET 0,A` (R235) -/
  | set0A
  /-- `SET 1,B` (R235) -/
  | set1B
  /-- `SET 1,C` (R235) -/
  | set1C
  /-- `SET 1,D` (R235) -/
  | set1D
  /-- `SET 1,E` (R235) -/
  | set1E
  /-- `SET 1,H` (R235) -/
  | set1H
  /-- `SET 1,L` (R235) -/
  | set1L
  /-- `SET 1,(HL)` (R236) -/
  | set1MemHL
  /-- `SET 1,A` (R235) -/
  | set1A
  /-- `SET 2,B` (R235) -/
  | set2B
  /-- `SET 2,C` (R235) -/
  | set2C
  /-- `SET 2,D` (R235) -/
  | set2D
  /-- `SET 2,E` (R235) -/
  | set2E
  /-- `SET 2,H` (R235) -/
  | set2H
  /-- `SET 2,L` (R235) -/
  | set2L
  /-- `SET 2,(HL)` (R236) -/
  | set2MemHL
  /-- `SET 2,A` (R235) -/
  | set2A
  /-- `SET 3,B` (R235) -/
  | set3B
  /-- `SET 3,C` (R235) -/
  | set3C
  /-- `SET 3,D` (R235) -/
  | set3D
  /-- `SET 3,E` (R235) -/
  | set3E
  /-- `SET 3,H` (R235) -/
  | set3H
  /-- `SET 3,L` (R235) -/
  | set3L
  /-- `SET 3,(HL)` (R236) -/
  | set3MemHL
  /-- `SET 3,A` (R235) -/
  | set3A
  /-- `SET 4,B` (R235) -/
  | set4B
  /-- `SET 4,C` (R235) -/
  | set4C
  /-- `SET 4,D` (R235) -/
  | set4D
  /-- `SET 4,E` (R235) -/
  | set4E
  /-- `SET 4,H` (R235) -/
  | set4H
  /-- `SET 4,L` (R235) -/
  | set4L
  /-- `SET 4,(HL)` (R236) -/
  | set4MemHL
  /-- `SET 4,A` (R235) -/
  | set4A
  /-- `SET 5,B` (R235) -/
  | set5B
  /-- `SET 5,C` (R235) -/
  | set5C
  /-- `SET 5,D` (R235) -/
  | set5D
  /-- `SET 5,E` (R235) -/
  | set5E
  /-- `SET 5,H` (R235) -/
  | set5H
  /-- `SET 5,L` (R235) -/
  | set5L
  /-- `SET 5,(HL)` (R236) -/
  | set5MemHL
  /-- `SET 5,A` (R235) -/
  | set5A
  /-- `SET 6,B` (R235) -/
  | set6B
  /-- `SET 6,C` (R235) -/
  | set6C
  /-- `SET 6,D` (R235) -/
  | set6D
  /-- `SET 6,E` (R235) -/
  | set6E
  /-- `SET 6,H` (R235) -/
  | set6H
  /-- `SET 6,L` (R235) -/
  | set6L
  /-- `SET 6,(HL)` (R236) -/
  | set6MemHL
  /-- `SET 6,A` (R235) -/
  | set6A
  /-- `SET 7,B` (R235) -/
  | set7B
  /-- `SET 7,C` (R235) -/
  | set7C
  /-- `SET 7,D` (R235) -/
  | set7D
  /-- `SET 7,E` (R235) -/
  | set7E
  /-- `SET 7,H` (R235) -/
  | set7H
  /-- `SET 7,L` (R235) -/
  | set7L
  /-- `SET 7,(HL)` (R236) -/
  | set7MemHL
  /-- `SET 7,A` (R235) -/
  | set7A
  deriving DecidableEq, Repr

end Sys2Proof
end

