-- ==== Sys2Proof/Machine/Operands.lean ====
section
/-! DEFINITION. The operand forms: 8-bit registers, 16-bit pairs, the flag register's mask, and the condition codes
(spec/10_state.md; spec/30_encoding.md R74, R75, R77). -/

namespace Sys2Proof.Machine.State

/-- Read `r8[i]` (spec/30_encoding.md R74). -/
def getR8 (s : State) : R8 → Byte
  | .b => s.b
  | .c => s.c
  | .d => s.d
  | .e => s.e
  | .h => s.h
  | .l => s.l
  | .a => s.a

/-- Write `r8[i] <- v` (spec/30_encoding.md R74). -/
def setR8 (s : State) (r : R8) (v : Byte) : State :=
  match r with
  | .b => { s with b := v }
  | .c => { s with c := v }
  | .d => { s with d := v }
  | .e => { s with e := v }
  | .h => { s with h := v }
  | .l => { s with l := v }
  | .a => { s with a := v }

/-- Write F: "every write to F stores `v & 0xF0`" (spec/10_state.md R12). -/
def setF (s : State) (v : Byte) : State := { s with f := v &&& 0xF0#8 }

/-- The view `AF = {A, F}` (spec/10_state.md R11). -/
def af (s : State) : Word := pair16 s.a s.f

/-- The view `BC = {B, C}` (spec/10_state.md R11). -/
def bc (s : State) : Word := pair16 s.b s.c

/-- The view `DE = {D, E}` (spec/10_state.md R11). -/
def de (s : State) : Word := pair16 s.d s.e

/-- The view `HL = {H, L}` (spec/10_state.md R11). -/
def hl (s : State) : Word := pair16 s.h s.l

/-- Read `r16[p]` (spec/30_encoding.md R75, first column). -/
def getR16 (s : State) : R16 → Word
  | .bc => s.bc
  | .de => s.de
  | .hl => s.hl
  | .sp => s.sp

/-- Write `r16[p] <- v`: the high register takes `v[15:8]`, the low one `v[7:0]` (spec/10_state.md R11). -/
def setR16 (s : State) (p : R16) (v : Word) : State :=
  match p with
  | .bc => { s with b := hi8 v, c := lo8 v }
  | .de => { s with d := hi8 v, e := lo8 v }
  | .hl => { s with h := hi8 v, l := lo8 v }
  | .sp => { s with sp := v }

/-- Read `r16stk[p]` (spec/30_encoding.md R75, second column). -/
def getStk (s : State) : R16Stk → Word
  | .bc => s.bc
  | .de => s.de
  | .hl => s.hl
  | .af => s.af

/-- Write `r16stk[p]`; for AF the low byte is masked (spec/10_state.md R11, R12). -/
def setStk (s : State) (p : R16Stk) (v : Word) : State :=
  match p with
  | .bc => { s with b := hi8 v, c := lo8 v }
  | .de => { s with d := hi8 v, e := lo8 v }
  | .hl => { s with h := hi8 v, l := lo8 v }
  | .af => State.setF { s with a := hi8 v } (lo8 v)

/-- `F.Z`, bit 7 of F (spec/10_state.md R14). -/
def flagZ (s : State) : Bool := s.f.getLsbD 7

/-- `F.N`, bit 6 of F (spec/10_state.md R14). -/
def flagN (s : State) : Bool := s.f.getLsbD 6

/-- `F.H`, bit 5 of F (spec/10_state.md R14). -/
def flagH (s : State) : Bool := s.f.getLsbD 5

/-- `F.C`, bit 4 of F (spec/10_state.md R14). -/
def flagC (s : State) : Bool := s.f.getLsbD 4

/-- `cond(cc)` (spec/30_encoding.md R77). -/
def cond (s : State) : Cond → Bool
  | .nz => !s.flagZ
  | .z => s.flagZ
  | .nc => !s.flagC
  | .c => s.flagC

end Sys2Proof.Machine.State
end

