-- ==== Sys2Proof/Machine/Flags.lean ====
section
/-! DEFINITION. Every flag computation: the flag byte, the 8-bit and 16-bit adders, the logic functions, the decimal
adjustment, and the one-bit functions (spec/42_alu8.md R150 to R156, R188; spec/43_alu16.md R200, R201;
spec/44_rotate_shift_bit.md R210). -/

namespace Sys2Proof.Machine

/-- `F = {Z, N, H, C, 0, 0, 0, 0}` (spec/10_state.md R14). -/
def packF (z n h c : Bool) : Byte :=
  (BitVec.ofBool z ++ BitVec.ofBool n ++ BitVec.ofBool h ++ BitVec.ofBool c ++ 0#4 : BitVec (1 + 1 + 1 + 1 + 4))

/-- Write the four flags. -/
def State.setFlags (s : State) (z n h c : Bool) : State := s.setF (packF z n h c)

/-- The result byte and the four flags of an 8-bit function. -/
structure AluOut where
  r : Byte
  z : Bool
  n : Bool
  h : Bool
  c : Bool
  deriving DecidableEq, Repr

/-- `add8(a, b, c)` (spec/42_alu8.md R150). -/
def add8 (a b : Byte) (c : Bool) : AluOut :=
  let s := a.toNat + b.toNat + c.toNat
  let r := BitVec.ofNat 8 s
  { r := r, z := r == 0#8, n := false, h := decide (nibble a + nibble b + c.toNat > 0xF), c := decide (s > 0xFF) }

/-- `sub8(a, b, c)` (spec/42_alu8.md R151). -/
def sub8 (a b : Byte) (c : Bool) : AluOut :=
  let r := a - b - BitVec.ofNat 8 c.toNat
  { r := r, z := r == 0#8, n := true, h := decide (nibble a < nibble b + c.toNat),
    c := decide (a.toNat < b.toNat + c.toNat) }

/-- `and8(a, b)` (spec/42_alu8.md R152). -/
def and8 (a b : Byte) : AluOut :=
  { r := a &&& b, z := (a &&& b) == 0#8, n := false, h := true, c := false }

/-- `xor8(a, b)` (spec/42_alu8.md R153). -/
def xor8 (a b : Byte) : AluOut :=
  { r := a ^^^ b, z := (a ^^^ b) == 0#8, n := false, h := false, c := false }

/-- `or8(a, b)` (spec/42_alu8.md R154). -/
def or8 (a b : Byte) : AluOut :=
  { r := a ||| b, z := (a ||| b) == 0#8, n := false, h := false, c := false }

/-- The accumulator operation an opcode's `y` field selects, on `(A, v, F.C)` (spec/42_alu8.md R155). -/
def alu8 : AluOp → Byte → Byte → Bool → AluOut
  | .add, a, v, _ => add8 a v false
  | .adc, a, v, c => add8 a v c
  | .sub, a, v, _ => sub8 a v false
  | .sbc, a, v, c => sub8 a v c
  | .and, a, v, _ => and8 a v
  | .xor, a, v, _ => xor8 a v
  | .or, a, v, _ => or8 a v
  | .cp, a, v, _ => sub8 a v false

/-- The corrected accumulator and carry of `DAA` (spec/42_alu8.md R188): after an addition both tests look at the
uncorrected A; after a subtraction only H and C are looked at and C stays. -/
def daa8 (a : Byte) (n h c : Bool) : Byte × Bool :=
  if n then
    (a - ((if h then 0x06#8 else 0x00#8) ||| (if c then 0x60#8 else 0x00#8)), c)
  else
    let low := h || decide (nibble a > 9)
    let high := c || decide (a.toNat > 0x99)
    (a + ((if low then 0x06#8 else 0x00#8) ||| (if high then 0x60#8 else 0x00#8)), high)

/-- The result and the two flags of a 16-bit addition. -/
structure Add16Out where
  r : Word
  h : Bool
  c : Bool
  deriving DecidableEq, Repr

/-- `add16(a, b)` (spec/43_alu16.md R200): H is the carry out of bit 11, C that out of bit 15; Z is not produced. -/
def add16 (a b : Word) : Add16Out :=
  let s := a.toNat + b.toNat
  { r := BitVec.ofNat 16 s, h := decide (a.toNat % 0x1000 + b.toNat % 0x1000 > 0xFFF), c := decide (s > 0xFFFF) }

/-- `addsp(b)` (spec/43_alu16.md R201): SP plus a signed byte; both flags come from the unsigned sum of the low byte
of SP and the raw operand byte. -/
def addSp (sp : Word) (b : Byte) : Add16Out :=
  { r := sp + sext16 b, h := decide (nibble (lo8 sp) + nibble b > 0xF), c := decide ((lo8 sp).toNat + b.toNat > 0xFF) }

/-- The result byte and carry out of a one-bit function. -/
structure RotOut where
  r : Byte
  cout : Bool
  deriving DecidableEq, Repr

/-- The eight one-bit functions on a byte and the carry flag (spec/44_rotate_shift_bit.md R210). -/
def rot8 (op : RotOp) (v : Byte) (cin : Bool) : RotOut :=
  match op with
  | .rlc => ⟨(v.extractLsb' 0 7 ++ v.extractLsb' 7 1 : BitVec (7 + 1)), v.getLsbD 7⟩
  | .rrc => ⟨(v.extractLsb' 0 1 ++ v.extractLsb' 1 7 : BitVec (1 + 7)), v.getLsbD 0⟩
  | .rl => ⟨(v.extractLsb' 0 7 ++ BitVec.ofBool cin : BitVec (7 + 1)), v.getLsbD 7⟩
  | .rr => ⟨(BitVec.ofBool cin ++ v.extractLsb' 1 7 : BitVec (1 + 7)), v.getLsbD 0⟩
  | .sla => ⟨(v.extractLsb' 0 7 ++ 0#1 : BitVec (7 + 1)), v.getLsbD 7⟩
  | .sra => ⟨(v.extractLsb' 7 1 ++ v.extractLsb' 1 7 : BitVec (1 + 7)), v.getLsbD 0⟩
  | .swap => ⟨(v.extractLsb' 0 4 ++ v.extractLsb' 4 4 : BitVec (4 + 4)), false⟩
  | .srl => ⟨(0#1 ++ v.extractLsb' 1 7 : BitVec (1 + 7)), v.getLsbD 0⟩

/-- `1 << b` on a byte (spec/44_rotate_shift_bit.md R233, R235). -/
def bitMask (b : Fin 8) : Byte := 1#8 <<< b.val

end Sys2Proof.Machine
end

