-- ==== Sys2Proof/Machine/Ops.lean ====
section
/-! DEFINITION. The operations the meanings share: the end of an instruction, the stack primitives, taking the core's
one exception, taking an interrupt, and the return from one (spec/41_load16_stack.md R130 to R133;
spec/46_system.md R275; spec/60_exceptions.md R304). -/

namespace Sys2Proof.Machine

/-- The outcome type of every meaning. -/
abbrev Result := Host.Outcome State Fault Refusal

namespace State

/-- `pc <- target` at the end of an instruction, and the step's outputs (spec/10_state.md R20; spec/30_encoding.md
R71 items 6 and 7). `length` is the encoded length, whether or not a jump was taken. -/
def jump (s : State) (target : Word) (length cycles : Nat) : State :=
  { s with pc := target, out := { length := length, cycles := cycles, report := none } }

/-- The default end of an instruction: `next_pc = PC + length`, wrapping (spec/10_state.md R20). -/
def finish (s : State) (length cycles : Nat) : State :=
  s.jump (s.pc + BitVec.ofNat 16 length) length cycles

end State

/-- `Push8(v)` (spec/41_load16_stack.md R130): SP is decremented first; it wraps. -/
def push8 (s : State) (v : Byte) : State :=
  memWrite { s with sp := s.sp - 1#16 } (s.sp - 1#16) v

/-- `Pop8()` (spec/41_load16_stack.md R131): SP is incremented after the read; it wraps. -/
def pop8 (s : State) : Byte × State :=
  let rd := memRead s s.sp
  (rd.1, { rd.2 with sp := s.sp + 1#16 })

/-- `Push16(v)` (spec/41_load16_stack.md R132): the high byte first, at the higher address. -/
def push16 (s : State) (v : Word) : State := push8 (push8 s (hi8 v)) (lo8 v)

/-- `Pop16()` (spec/41_load16_stack.md R133): the low byte first. -/
def pop16 (s : State) : Word × State :=
  let lo := pop8 s
  let hi := pop8 lo.2
  (pair16 hi.1 lo.1, hi.2)

/-- Taking the exception InvalidOpcode (spec/46_system.md R275; spec/30_encoding.md R71 item 4): the core locks, the
byte is reported, the step outputs length 0 and cycles 1, and nothing else changes. -/
def takeInvalidOpcode (op : Byte) (s : State) : State :=
  { s with run := .locked, out := { length := 0, cycles := 1, report := some (.invalidOpcode op) } }

/-- Taking an interrupt, the effect of `DeliverInterrupt(vec)` (spec/60_exceptions.md R304, R313): IME and IME_pending
are cleared, the core runs, PC is pushed and becomes the vector. -/
def takeInterrupt (vec : Word) (s : State) : State :=
  { push16 { s with ime := false, imePending := false, run := .normal } s.pc with pc := vec }

/-- The return from an interrupt (spec/45_control_flow.md R260): PC is popped and IME set at once; IME_pending is not
written. -/
def returnFromInterrupt (s : State) : State :=
  let pop := pop16 s
  State.jump { pop.2 with ime := true } pop.1 1 4

/-- The commit of a pending `EI` at the end of a step that completed an instruction (spec/10_state.md R24;
spec/30_encoding.md R71 item 6): `p0` is IME_pending sampled at the start of the step. -/
def commitEI (p0 : Bool) (s : State) : State :=
  if p0 && s.imePending then { s with ime := true, imePending := false } else s

/-- The end of a step (spec/30_encoding.md R71 items 4 and 6): a step that completed an instruction commits a pending
`EI`; a step that locked the core completed none and does not commit. -/
def endStep (p0 : Bool) (r : Result) : Result :=
  match r with
  | .next s => .next (if s.run = .locked then s else commitEI p0 s)
  | .fault φ => .fault φ
  | .refused ρ => .refused ρ

/-- A step in a run state other than Normal (spec/70_reset_and_hazards.md R354): nothing changes, the step outputs
length 0 and cycles 1. -/
def idleStep (s : State) : State := { s with out := { length := 0, cycles := 1, report := none } }

end Sys2Proof.Machine
end

