-- ==== Sys2Proof/Machine/Alu16.lean ====
section
/-! DEFINITION. 16-bit arithmetic (spec/43_alu16.md). -/

namespace Sys2Proof.Machine

/-- `ADD HL,r16` (R202): Z is not written. -/
def addHLPair (p : R16) (s : State) : State :=
  let o := add16 s.hl (s.getR16 p)
  ((s.setR16 .hl o.r).setFlags s.flagZ false o.h o.c).finish 1 2

/-- `INC r16` (R203): no flag is written. -/
def incPair (p : R16) (s : State) : State := (s.setR16 p (s.getR16 p + 1#16)).finish 1 2

/-- `DEC r16` (R204): no flag is written. -/
def decPair (p : R16) (s : State) : State := (s.setR16 p (s.getR16 p - 1#16)).finish 1 2

/-- `ADD SP,e8` (R205): Z and N are cleared. -/
def addSPOffset (e : Byte) (s : State) : State :=
  let o := addSp s.sp e
  ((s.setR16 .sp o.r).setFlags false false o.h o.c).finish 2 4

/-! One meaning per instruction. -/

/-- `INC BC` (R203). -/
def execIncBC (s : State) : Result := .next (incPair .bc s)

/-- `ADD HL,BC` (R202). -/
def execAddHLBC (s : State) : Result := .next (addHLPair .bc s)

/-- `DEC BC` (R204). -/
def execDecBC (s : State) : Result := .next (decPair .bc s)

/-- `INC DE` (R203). -/
def execIncDE (s : State) : Result := .next (incPair .de s)

/-- `ADD HL,DE` (R202). -/
def execAddHLDE (s : State) : Result := .next (addHLPair .de s)

/-- `DEC DE` (R204). -/
def execDecDE (s : State) : Result := .next (decPair .de s)

/-- `INC HL` (R203). -/
def execIncHL (s : State) : Result := .next (incPair .hl s)

/-- `ADD HL,HL` (R202). -/
def execAddHLHL (s : State) : Result := .next (addHLPair .hl s)

/-- `DEC HL` (R204). -/
def execDecHL (s : State) : Result := .next (decPair .hl s)

/-- `INC SP` (R203). -/
def execIncSP (s : State) : Result := .next (incPair .sp s)

/-- `ADD HL,SP` (R202). -/
def execAddHLSP (s : State) : Result := .next (addHLPair .sp s)

/-- `DEC SP` (R204). -/
def execDecSP (s : State) : Result := .next (decPair .sp s)

/-- `ADD SP,e8` (R205). -/
def execAddSPE8 (e : Byte) (s : State) : Result := .next (addSPOffset e s)

end Sys2Proof.Machine
end

