-- ==== Sys2Proof/Machine/Alu8.lean ====
section
/-! DEFINITION. 8-bit arithmetic and logic (spec/42_alu8.md). -/

namespace Sys2Proof.Machine

/-- The end of an accumulator operation on an operand byte (R155): the four flags are written, and A takes the result
unless the operation is `CP` (R181). -/
def aluInto (op : AluOp) (v : Byte) (s : State) : State :=
  let o := alu8 op s.a v s.flagC
  (if op = .cp then s else s.setR8 .a o.r).setFlags o.z o.n o.h o.c

/-- `alu A,r8` (R155; R160 to R181). -/
def aluReg (op : AluOp) (r : R8) (s : State) : State := (aluInto op (s.getR8 r) s).finish 1 1

/-- `alu A,(HL)` (R155; R161 to R182). -/
def aluAtHL (op : AluOp) (s : State) : State :=
  let rd := memRead s s.hl
  (aluInto op rd.1 rd.2).finish 1 2

/-- `alu A,n8` (R155; R162 to R183). -/
def aluN8 (op : AluOp) (n : Byte) (s : State) : State := (aluInto op n s).finish 2 2

/-- `INC r8` (R184): C is not written. -/
def incReg (r : R8) (s : State) : State :=
  let o := add8 (s.getR8 r) 1#8 false
  ((s.setR8 r o.r).setFlags o.z o.n o.h s.flagC).finish 1 1

/-- `INC (HL)` (R185): read, then write the same address; C is not written. -/
def incAtHL (s : State) : State :=
  let rd := memRead s s.hl
  let o := add8 rd.1 1#8 false
  ((memWrite rd.2 s.hl o.r).setFlags o.z o.n o.h s.flagC).finish 1 3

/-- `DEC r8` (R186): C is not written. -/
def decReg (r : R8) (s : State) : State :=
  let o := sub8 (s.getR8 r) 1#8 false
  ((s.setR8 r o.r).setFlags o.z o.n o.h s.flagC).finish 1 1

/-- `DEC (HL)` (R187): read, then write the same address; C is not written. -/
def decAtHL (s : State) : State :=
  let rd := memRead s s.hl
  let o := sub8 rd.1 1#8 false
  ((memWrite rd.2 s.hl o.r).setFlags o.z o.n o.h s.flagC).finish 1 3

/-- `DAA` (R188): Z and C are recomputed, H cleared, N kept. -/
def daaA (s : State) : State :=
  let o := daa8 s.a s.flagN s.flagH s.flagC
  ((s.setR8 .a o.1).setFlags (o.1 == 0#8) s.flagN false o.2).finish 1 1

/-- `CPL` (R189): Z and C are not written. -/
def cplA (s : State) : State := ((s.setR8 .a (~~~s.a)).setFlags s.flagZ true true s.flagC).finish 1 1

/-- `SCF` (R190): Z is not written. -/
def setCarry (s : State) : State := (s.setFlags s.flagZ false false true).finish 1 1

/-- `CCF` (R191): Z is not written. -/
def complementCarry (s : State) : State := (s.setFlags s.flagZ false false (!s.flagC)).finish 1 1

/-! One meaning per instruction. -/

/-- `INC B` (R184). -/
def execIncB (s : State) : Result := .next (incReg .b s)

/-- `DEC B` (R186). -/
def execDecB (s : State) : Result := .next (decReg .b s)

/-- `INC C` (R184). -/
def execIncC (s : State) : Result := .next (incReg .c s)

/-- `DEC C` (R186). -/
def execDecC (s : State) : Result := .next (decReg .c s)

/-- `INC D` (R184). -/
def execIncD (s : State) : Result := .next (incReg .d s)

/-- `DEC D` (R186). -/
def execDecD (s : State) : Result := .next (decReg .d s)

/-- `INC E` (R184). -/
def execIncE (s : State) : Result := .next (incReg .e s)

/-- `DEC E` (R186). -/
def execDecE (s : State) : Result := .next (decReg .e s)

/-- `INC H` (R184). -/
def execIncH (s : State) : Result := .next (incReg .h s)

/-- `DEC H` (R186). -/
def execDecH (s : State) : Result := .next (decReg .h s)

/-- `DAA` (R188). -/
def execDaa (s : State) : Result := .next (daaA s)

/-- `INC L` (R184). -/
def execIncL (s : State) : Result := .next (incReg .l s)

/-- `DEC L` (R186). -/
def execDecL (s : State) : Result := .next (decReg .l s)

/-- `CPL` (R189). -/
def execCpl (s : State) : Result := .next (cplA s)

/-- `INC (HL)` (R185). -/
def execIncMemHL (s : State) : Result := .next (incAtHL s)

/-- `DEC (HL)` (R187). -/
def execDecMemHL (s : State) : Result := .next (decAtHL s)

/-- `SCF` (R190). -/
def execScf (s : State) : Result := .next (setCarry s)

/-- `INC A` (R184). -/
def execIncA (s : State) : Result := .next (incReg .a s)

/-- `DEC A` (R186). -/
def execDecA (s : State) : Result := .next (decReg .a s)

/-- `CCF` (R191). -/
def execCcf (s : State) : Result := .next (complementCarry s)

/-- `ADD A,B` (R160). -/
def execAddAB (s : State) : Result := .next (aluReg .add .b s)

/-- `ADD A,C` (R160). -/
def execAddAC (s : State) : Result := .next (aluReg .add .c s)

/-- `ADD A,D` (R160). -/
def execAddAD (s : State) : Result := .next (aluReg .add .d s)

/-- `ADD A,E` (R160). -/
def execAddAE (s : State) : Result := .next (aluReg .add .e s)

/-- `ADD A,H` (R160). -/
def execAddAH (s : State) : Result := .next (aluReg .add .h s)

/-- `ADD A,L` (R160). -/
def execAddAL (s : State) : Result := .next (aluReg .add .l s)

/-- `ADD A,(HL)` (R161). -/
def execAddAMemHL (s : State) : Result := .next (aluAtHL .add s)

/-- `ADD A,A` (R160). -/
def execAddAA (s : State) : Result := .next (aluReg .add .a s)

/-- `ADC A,B` (R163). -/
def execAdcAB (s : State) : Result := .next (aluReg .adc .b s)

/-- `ADC A,C` (R163). -/
def execAdcAC (s : State) : Result := .next (aluReg .adc .c s)

/-- `ADC A,D` (R163). -/
def execAdcAD (s : State) : Result := .next (aluReg .adc .d s)

/-- `ADC A,E` (R163). -/
def execAdcAE (s : State) : Result := .next (aluReg .adc .e s)

/-- `ADC A,H` (R163). -/
def execAdcAH (s : State) : Result := .next (aluReg .adc .h s)

/-- `ADC A,L` (R163). -/
def execAdcAL (s : State) : Result := .next (aluReg .adc .l s)

/-- `ADC A,(HL)` (R164). -/
def execAdcAMemHL (s : State) : Result := .next (aluAtHL .adc s)

/-- `ADC A,A` (R163). -/
def execAdcAA (s : State) : Result := .next (aluReg .adc .a s)

/-- `SUB A,B` (R166). -/
def execSubAB (s : State) : Result := .next (aluReg .sub .b s)

/-- `SUB A,C` (R166). -/
def execSubAC (s : State) : Result := .next (aluReg .sub .c s)

/-- `SUB A,D` (R166). -/
def execSubAD (s : State) : Result := .next (aluReg .sub .d s)

/-- `SUB A,E` (R166). -/
def execSubAE (s : State) : Result := .next (aluReg .sub .e s)

/-- `SUB A,H` (R166). -/
def execSubAH (s : State) : Result := .next (aluReg .sub .h s)

/-- `SUB A,L` (R166). -/
def execSubAL (s : State) : Result := .next (aluReg .sub .l s)

/-- `SUB A,(HL)` (R167). -/
def execSubAMemHL (s : State) : Result := .next (aluAtHL .sub s)

/-- `SUB A,A` (R166). -/
def execSubAA (s : State) : Result := .next (aluReg .sub .a s)

/-- `SBC A,B` (R169). -/
def execSbcAB (s : State) : Result := .next (aluReg .sbc .b s)

/-- `SBC A,C` (R169). -/
def execSbcAC (s : State) : Result := .next (aluReg .sbc .c s)

/-- `SBC A,D` (R169). -/
def execSbcAD (s : State) : Result := .next (aluReg .sbc .d s)

/-- `SBC A,E` (R169). -/
def execSbcAE (s : State) : Result := .next (aluReg .sbc .e s)

/-- `SBC A,H` (R169). -/
def execSbcAH (s : State) : Result := .next (aluReg .sbc .h s)

/-- `SBC A,L` (R169). -/
def execSbcAL (s : State) : Result := .next (aluReg .sbc .l s)

/-- `SBC A,(HL)` (R170). -/
def execSbcAMemHL (s : State) : Result := .next (aluAtHL .sbc s)

/-- `SBC A,A` (R169). -/
def execSbcAA (s : State) : Result := .next (aluReg .sbc .a s)

/-- `AND A,B` (R172). -/
def execAndAB (s : State) : Result := .next (aluReg .and .b s)

/-- `AND A,C` (R172). -/
def execAndAC (s : State) : Result := .next (aluReg .and .c s)

/-- `AND A,D` (R172). -/
def execAndAD (s : State) : Result := .next (aluReg .and .d s)

/-- `AND A,E` (R172). -/
def execAndAE (s : State) : Result := .next (aluReg .and .e s)

/-- `AND A,H` (R172). -/
def execAndAH (s : State) : Result := .next (aluReg .and .h s)

/-- `AND A,L` (R172). -/
def execAndAL (s : State) : Result := .next (aluReg .and .l s)

/-- `AND A,(HL)` (R173). -/
def execAndAMemHL (s : State) : Result := .next (aluAtHL .and s)

/-- `AND A,A` (R172). -/
def execAndAA (s : State) : Result := .next (aluReg .and .a s)

/-- `XOR A,B` (R175). -/
def execXorAB (s : State) : Result := .next (aluReg .xor .b s)

/-- `XOR A,C` (R175). -/
def execXorAC (s : State) : Result := .next (aluReg .xor .c s)

/-- `XOR A,D` (R175). -/
def execXorAD (s : State) : Result := .next (aluReg .xor .d s)

/-- `XOR A,E` (R175). -/
def execXorAE (s : State) : Result := .next (aluReg .xor .e s)

/-- `XOR A,H` (R175). -/
def execXorAH (s : State) : Result := .next (aluReg .xor .h s)

/-- `XOR A,L` (R175). -/
def execXorAL (s : State) : Result := .next (aluReg .xor .l s)

/-- `XOR A,(HL)` (R176). -/
def execXorAMemHL (s : State) : Result := .next (aluAtHL .xor s)

/-- `XOR A,A` (R175). -/
def execXorAA (s : State) : Result := .next (aluReg .xor .a s)

/-- `OR A,B` (R178). -/
def execOrAB (s : State) : Result := .next (aluReg .or .b s)

/-- `OR A,C` (R178). -/
def execOrAC (s : State) : Result := .next (aluReg .or .c s)

/-- `OR A,D` (R178). -/
def execOrAD (s : State) : Result := .next (aluReg .or .d s)

/-- `OR A,E` (R178). -/
def execOrAE (s : State) : Result := .next (aluReg .or .e s)

/-- `OR A,H` (R178). -/
def execOrAH (s : State) : Result := .next (aluReg .or .h s)

/-- `OR A,L` (R178). -/
def execOrAL (s : State) : Result := .next (aluReg .or .l s)

/-- `OR A,(HL)` (R179). -/
def execOrAMemHL (s : State) : Result := .next (aluAtHL .or s)

/-- `OR A,A` (R178). -/
def execOrAA (s : State) : Result := .next (aluReg .or .a s)

/-- `CP A,B` (R181). -/
def execCpAB (s : State) : Result := .next (aluReg .cp .b s)

/-- `CP A,C` (R181). -/
def execCpAC (s : State) : Result := .next (aluReg .cp .c s)

/-- `CP A,D` (R181). -/
def execCpAD (s : State) : Result := .next (aluReg .cp .d s)

/-- `CP A,E` (R181). -/
def execCpAE (s : State) : Result := .next (aluReg .cp .e s)

/-- `CP A,H` (R181). -/
def execCpAH (s : State) : Result := .next (aluReg .cp .h s)

/-- `CP A,L` (R181). -/
def execCpAL (s : State) : Result := .next (aluReg .cp .l s)

/-- `CP A,(HL)` (R182). -/
def execCpAMemHL (s : State) : Result := .next (aluAtHL .cp s)

/-- `CP A,A` (R181). -/
def execCpAA (s : State) : Result := .next (aluReg .cp .a s)

/-- `ADD A,n8` (R162). -/
def execAddAN8 (n : Byte) (s : State) : Result := .next (aluN8 .add n s)

/-- `ADC A,n8` (R165). -/
def execAdcAN8 (n : Byte) (s : State) : Result := .next (aluN8 .adc n s)

/-- `SUB A,n8` (R168). -/
def execSubAN8 (n : Byte) (s : State) : Result := .next (aluN8 .sub n s)

/-- `SBC A,n8` (R171). -/
def execSbcAN8 (n : Byte) (s : State) : Result := .next (aluN8 .sbc n s)

/-- `AND A,n8` (R174). -/
def execAndAN8 (n : Byte) (s : State) : Result := .next (aluN8 .and n s)

/-- `XOR A,n8` (R177). -/
def execXorAN8 (n : Byte) (s : State) : Result := .next (aluN8 .xor n s)

/-- `OR A,n8` (R180). -/
def execOrAN8 (n : Byte) (s : State) : Result := .next (aluN8 .or n s)

/-- `CP A,n8` (R183). -/
def execCpAN8 (n : Byte) (s : State) : Result := .next (aluN8 .cp n s)

end Sys2Proof.Machine
end

