-- ==== Sys2Proof/Machine/ControlFlow.lean ====
section
/-! DEFINITION. Control flow (spec/45_control_flow.md). `s.pc` is the address of the instruction's first byte
(spec/30_encoding.md R72). -/

namespace Sys2Proof.Machine

/-- `JP a16` (R251). -/
def jumpAbs (a : Word) (s : State) : State := s.jump a 3 4

/-- `JP cc,a16` (R252). -/
def jumpAbsIf (cc : Cond) (a : Word) (s : State) : State := if s.cond cc then s.jump a 3 4 else s.finish 3 3

/-- `JP HL` (R253): no memory is read. -/
def jumpHL (s : State) : State := s.jump s.hl 1 1

/-- The target of a relative jump: `PC + 2 + sext_16(e8)`, wrapping (R254). -/
def relTarget (s : State) (e : Byte) : Word := s.pc + 2#16 + sext16 e

/-- `JR e8` (R254). -/
def jumpRel (e : Byte) (s : State) : State := s.jump (relTarget s e) 2 3

/-- `JR cc,e8` (R255). -/
def jumpRelIf (cc : Cond) (e : Byte) (s : State) : State :=
  if s.cond cc then s.jump (relTarget s e) 2 3 else s.finish 2 2

/-- `CALL a16` (R256): the address after the instruction is pushed. -/
def callAbs (a : Word) (s : State) : State := (push16 s (s.pc + 3#16)).jump a 3 6

/-- `CALL cc,a16` (R257): not taken, there is no stack access. -/
def callAbsIf (cc : Cond) (a : Word) (s : State) : State :=
  if s.cond cc then (push16 s (s.pc + 3#16)).jump a 3 6 else s.finish 3 3

/-- `RET` (R258). -/
def retPop (s : State) : State :=
  let pop := pop16 s
  pop.2.jump pop.1 1 4

/-- `RET cc` (R259): not taken, there is no stack access. -/
def retPopIf (cc : Cond) (s : State) : State :=
  if s.cond cc then
    let pop := pop16 s
    pop.2.jump pop.1 1 5
  else s.finish 1 2

/-- The target `8 * t` of `RST` (R262). -/
def rstTarget (t : Fin 8) : Word := BitVec.ofNat 16 (8 * t.val)

/-- `RST vec` (R262). -/
def rstCall (t : Fin 8) (s : State) : State := (push16 s (s.pc + 1#16)).jump (rstTarget t) 1 4

/-! One meaning per instruction. -/

/-- `JR e8` (R254). -/
def execJrE8 (e : Byte) (s : State) : Result := .next (jumpRel e s)

/-- `JR NZ,e8` (R255). -/
def execJrNZE8 (e : Byte) (s : State) : Result := .next (jumpRelIf .nz e s)

/-- `JR Z,e8` (R255). -/
def execJrZE8 (e : Byte) (s : State) : Result := .next (jumpRelIf .z e s)

/-- `JR NC,e8` (R255). -/
def execJrNCE8 (e : Byte) (s : State) : Result := .next (jumpRelIf .nc e s)

/-- `JR C,e8` (R255). -/
def execJrCE8 (e : Byte) (s : State) : Result := .next (jumpRelIf .c e s)

/-- `RET NZ` (R259). -/
def execRetNZ (s : State) : Result := .next (retPopIf .nz s)

/-- `JP NZ,a16` (R252). -/
def execJpNZA16 (a : Word) (s : State) : Result := .next (jumpAbsIf .nz a s)

/-- `JP a16` (R251). -/
def execJpA16 (a : Word) (s : State) : Result := .next (jumpAbs a s)

/-- `CALL NZ,a16` (R257). -/
def execCallNZA16 (a : Word) (s : State) : Result := .next (callAbsIf .nz a s)

/-- `RST 0x00` (R262). -/
def execRst00 (s : State) : Result := .next (rstCall 0 s)

/-- `RET Z` (R259). -/
def execRetZ (s : State) : Result := .next (retPopIf .z s)

/-- `RET` (R258). -/
def execRet (s : State) : Result := .next (retPop s)

/-- `JP Z,a16` (R252). -/
def execJpZA16 (a : Word) (s : State) : Result := .next (jumpAbsIf .z a s)

/-- `CALL Z,a16` (R257). -/
def execCallZA16 (a : Word) (s : State) : Result := .next (callAbsIf .z a s)

/-- `CALL a16` (R256). -/
def execCallA16 (a : Word) (s : State) : Result := .next (callAbs a s)

/-- `RST 0x08` (R262). -/
def execRst08 (s : State) : Result := .next (rstCall 1 s)

/-- `RET NC` (R259). -/
def execRetNC (s : State) : Result := .next (retPopIf .nc s)

/-- `JP NC,a16` (R252). -/
def execJpNCA16 (a : Word) (s : State) : Result := .next (jumpAbsIf .nc a s)

/-- `CALL NC,a16` (R257). -/
def execCallNCA16 (a : Word) (s : State) : Result := .next (callAbsIf .nc a s)

/-- `RST 0x10` (R262). -/
def execRst10 (s : State) : Result := .next (rstCall 2 s)

/-- `RET C` (R259). -/
def execRetC (s : State) : Result := .next (retPopIf .c s)

/-- `RETI` (R260). -/
def execReti (s : State) : Result := .next (returnFromInterrupt s)

/-- `JP C,a16` (R252). -/
def execJpCA16 (a : Word) (s : State) : Result := .next (jumpAbsIf .c a s)

/-- `CALL C,a16` (R257). -/
def execCallCA16 (a : Word) (s : State) : Result := .next (callAbsIf .c a s)

/-- `RST 0x18` (R262). -/
def execRst18 (s : State) : Result := .next (rstCall 3 s)

/-- `RST 0x20` (R262). -/
def execRst20 (s : State) : Result := .next (rstCall 4 s)

/-- `JP HL` (R253). -/
def execJpHL (s : State) : Result := .next (jumpHL s)

/-- `RST 0x28` (R262). -/
def execRst28 (s : State) : Result := .next (rstCall 5 s)

/-- `RST 0x30` (R262). -/
def execRst30 (s : State) : Result := .next (rstCall 6 s)

/-- `RST 0x38` (R262). -/
def execRst38 (s : State) : Result := .next (rstCall 7 s)

end Sys2Proof.Machine
end

