-- ==== Sys2Proof/Machine/Load16.lean ====
section
/-! DEFINITION. The 16-bit loads and the stack instructions (spec/41_load16_stack.md). -/

namespace Sys2Proof.Machine

/-- `LD r16,n16` (R134). -/
def ldR16N16 (p : R16) (n : Word) (s : State) : State := (s.setR16 p n).finish 3 3

/-- `LD (a16),SP` (R135): little-endian, low byte first. -/
def ldAtA16SP (a : Word) (s : State) : State := (memWrite16 s a s.sp).finish 3 5

/-- `LD SP,HL` (R136). -/
def ldSPFromHL (s : State) : State := (s.setR16 .sp s.hl).finish 1 2

/-- `LD HL,SP+e8` (R137): SP is unchanged; Z and N are cleared. -/
def ldHLFromSP (e : Byte) (s : State) : State :=
  let o := addSp s.sp e
  ((s.setR16 .hl o.r).setFlags false false o.h o.c).finish 2 3

/-- `PUSH r16` (R138). -/
def pushPair (p : R16Stk) (s : State) : State := (push16 s (s.getStk p)).finish 1 4

/-- `POP AF` (R139) and `POP r16` (R140). -/
def popPair (p : R16Stk) (s : State) : State :=
  let pop := pop16 s
  (pop.2.setStk p pop.1).finish 1 3

/-! One meaning per instruction. -/

/-- `LD BC,n16` (R134). -/
def execLdBCN16 (n : Word) (s : State) : Result := .next (ldR16N16 .bc n s)

/-- `LD (a16),SP` (R135). -/
def execLdMemA16SP (a : Word) (s : State) : Result := .next (ldAtA16SP a s)

/-- `LD DE,n16` (R134). -/
def execLdDEN16 (n : Word) (s : State) : Result := .next (ldR16N16 .de n s)

/-- `LD HL,n16` (R134). -/
def execLdHLN16 (n : Word) (s : State) : Result := .next (ldR16N16 .hl n s)

/-- `LD SP,n16` (R134). -/
def execLdSPN16 (n : Word) (s : State) : Result := .next (ldR16N16 .sp n s)

/-- `POP BC` (R140). -/
def execPopBC (s : State) : Result := .next (popPair .bc s)

/-- `PUSH BC` (R138). -/
def execPushBC (s : State) : Result := .next (pushPair .bc s)

/-- `POP DE` (R140). -/
def execPopDE (s : State) : Result := .next (popPair .de s)

/-- `PUSH DE` (R138). -/
def execPushDE (s : State) : Result := .next (pushPair .de s)

/-- `POP HL` (R140). -/
def execPopHL (s : State) : Result := .next (popPair .hl s)

/-- `PUSH HL` (R138). -/
def execPushHL (s : State) : Result := .next (pushPair .hl s)

/-- `POP AF` (R139). -/
def execPopAF (s : State) : Result := .next (popPair .af s)

/-- `PUSH AF` (R138). -/
def execPushAF (s : State) : Result := .next (pushPair .af s)

/-- `LD HL,SP+e8` (R137). -/
def execLdHLSPE8 (e : Byte) (s : State) : Result := .next (ldHLFromSP e s)

/-- `LD SP,HL` (R136). -/
def execLdSPHL (s : State) : Result := .next (ldSPFromHL s)

end Sys2Proof.Machine
end

