-- ==== Sys2Proof/Machine/Load8.lean ====
section
/-! DEFINITION. The 8-bit loads (spec/40_load8.md): one shared operation per form, then one meaning per instruction. -/

namespace Sys2Proof.Machine

/-- `LD r8,r8'` (R100). -/
def ldRegReg (dst src : R8) (s : State) : State := (s.setR8 dst (s.getR8 src)).finish 1 1

/-- `LD r8,n8` (R101). -/
def ldRegN8 (dst : R8) (n : Byte) (s : State) : State := (s.setR8 dst n).finish 2 2

/-- `LD r8,(HL)` (R102): the address is formed before the write, so the old HL addresses the read. -/
def ldRegAtHL (dst : R8) (s : State) : State :=
  let rd := memRead s s.hl
  (rd.2.setR8 dst rd.1).finish 1 2

/-- `LD (HL),r8` (R103). -/
def ldAtHLReg (src : R8) (s : State) : State := (memWrite s s.hl (s.getR8 src)).finish 1 2

/-- `LD (HL),n8` (R104). -/
def ldAtHLN8 (n : Byte) (s : State) : State := (memWrite s s.hl n).finish 2 3

/-- The loads of A from one address: R105, R106, R109, R112, R114. -/
def ldAFrom (addr : Word) (length cycles : Nat) (s : State) : State :=
  let rd := memRead s addr
  (rd.2.setR8 .a rd.1).finish length cycles

/-- The stores of A to one address: R107, R108, R110, R113, R115. -/
def ldToA (addr : Word) (length cycles : Nat) (s : State) : State := (memWrite s addr s.a).finish length cycles

/-- The stores of A at HL, which then moves by `move`, wrapping: R116, R117. -/
def ldAtHLAThen (move : Word) (s : State) : State :=
  ((memWrite s s.hl s.a).setR16 .hl (s.hl + move)).finish 1 2

/-- The loads of A from HL, which then moves by `move`, wrapping: R118, R119. -/
def ldAAtHLThen (move : Word) (s : State) : State :=
  let rd := memRead s s.hl
  ((rd.2.setR8 .a rd.1).setR16 .hl (s.hl + move)).finish 1 2

/-! One meaning per instruction. -/

/-- `LD (BC),A` (R107). -/
def execLdMemBCA (s : State) : Result := .next (ldToA s.bc 1 2 s)

/-- `LD B,n8` (R101). -/
def execLdBN8 (n : Byte) (s : State) : Result := .next (ldRegN8 .b n s)

/-- `LD A,(BC)` (R105). -/
def execLdAMemBC (s : State) : Result := .next (ldAFrom s.bc 1 2 s)

/-- `LD C,n8` (R101). -/
def execLdCN8 (n : Byte) (s : State) : Result := .next (ldRegN8 .c n s)

/-- `LD (DE),A` (R108). -/
def execLdMemDEA (s : State) : Result := .next (ldToA s.de 1 2 s)

/-- `LD D,n8` (R101). -/
def execLdDN8 (n : Byte) (s : State) : Result := .next (ldRegN8 .d n s)

/-- `LD A,(DE)` (R106). -/
def execLdAMemDE (s : State) : Result := .next (ldAFrom s.de 1 2 s)

/-- `LD E,n8` (R101). -/
def execLdEN8 (n : Byte) (s : State) : Result := .next (ldRegN8 .e n s)

/-- `LD (HL+),A` (R116). -/
def execLdMemHLIncA (s : State) : Result := .next (ldAtHLAThen 1#16 s)

/-- `LD H,n8` (R101). -/
def execLdHN8 (n : Byte) (s : State) : Result := .next (ldRegN8 .h n s)

/-- `LD A,(HL+)` (R118). -/
def execLdAMemHLInc (s : State) : Result := .next (ldAAtHLThen 1#16 s)

/-- `LD L,n8` (R101). -/
def execLdLN8 (n : Byte) (s : State) : Result := .next (ldRegN8 .l n s)

/-- `LD (HL-),A` (R117). -/
def execLdMemHLDecA (s : State) : Result := .next (ldAtHLAThen (-1#16) s)

/-- `LD (HL),n8` (R104). -/
def execLdMemHLN8 (n : Byte) (s : State) : Result := .next (ldAtHLN8 n s)

/-- `LD A,(HL-)` (R119). -/
def execLdAMemHLDec (s : State) : Result := .next (ldAAtHLThen (-1#16) s)

/-- `LD A,n8` (R101). -/
def execLdAN8 (n : Byte) (s : State) : Result := .next (ldRegN8 .a n s)

/-- `LD B,B` (R100). -/
def execLdBB (s : State) : Result := .next (ldRegReg .b .b s)

/-- `LD B,C` (R100). -/
def execLdBC (s : State) : Result := .next (ldRegReg .b .c s)

/-- `LD B,D` (R100). -/
def execLdBD (s : State) : Result := .next (ldRegReg .b .d s)

/-- `LD B,E` (R100). -/
def execLdBE (s : State) : Result := .next (ldRegReg .b .e s)

/-- `LD B,H` (R100). -/
def execLdBH (s : State) : Result := .next (ldRegReg .b .h s)

/-- `LD B,L` (R100). -/
def execLdBL (s : State) : Result := .next (ldRegReg .b .l s)

/-- `LD B,(HL)` (R102). -/
def execLdBMemHL (s : State) : Result := .next (ldRegAtHL .b s)

/-- `LD B,A` (R100). -/
def execLdBA (s : State) : Result := .next (ldRegReg .b .a s)

/-- `LD C,B` (R100). -/
def execLdCB (s : State) : Result := .next (ldRegReg .c .b s)

/-- `LD C,C` (R100). -/
def execLdCC (s : State) : Result := .next (ldRegReg .c .c s)

/-- `LD C,D` (R100). -/
def execLdCD (s : State) : Result := .next (ldRegReg .c .d s)

/-- `LD C,E` (R100). -/
def execLdCE (s : State) : Result := .next (ldRegReg .c .e s)

/-- `LD C,H` (R100). -/
def execLdCH (s : State) : Result := .next (ldRegReg .c .h s)

/-- `LD C,L` (R100). -/
def execLdCL (s : State) : Result := .next (ldRegReg .c .l s)

/-- `LD C,(HL)` (R102). -/
def execLdCMemHL (s : State) : Result := .next (ldRegAtHL .c s)

/-- `LD C,A` (R100). -/
def execLdCA (s : State) : Result := .next (ldRegReg .c .a s)

/-- `LD D,B` (R100). -/
def execLdDB (s : State) : Result := .next (ldRegReg .d .b s)

/-- `LD D,C` (R100). -/
def execLdDC (s : State) : Result := .next (ldRegReg .d .c s)

/-- `LD D,D` (R100). -/
def execLdDD (s : State) : Result := .next (ldRegReg .d .d s)

/-- `LD D,E` (R100). -/
def execLdDE (s : State) : Result := .next (ldRegReg .d .e s)

/-- `LD D,H` (R100). -/
def execLdDH (s : State) : Result := .next (ldRegReg .d .h s)

/-- `LD D,L` (R100). -/
def execLdDL (s : State) : Result := .next (ldRegReg .d .l s)

/-- `LD D,(HL)` (R102). -/
def execLdDMemHL (s : State) : Result := .next (ldRegAtHL .d s)

/-- `LD D,A` (R100). -/
def execLdDA (s : State) : Result := .next (ldRegReg .d .a s)

/-- `LD E,B` (R100). -/
def execLdEB (s : State) : Result := .next (ldRegReg .e .b s)

/-- `LD E,C` (R100). -/
def execLdEC (s : State) : Result := .next (ldRegReg .e .c s)

/-- `LD E,D` (R100). -/
def execLdED (s : State) : Result := .next (ldRegReg .e .d s)

/-- `LD E,E` (R100). -/
def execLdEE (s : State) : Result := .next (ldRegReg .e .e s)

/-- `LD E,H` (R100). -/
def execLdEH (s : State) : Result := .next (ldRegReg .e .h s)

/-- `LD E,L` (R100). -/
def execLdEL (s : State) : Result := .next (ldRegReg .e .l s)

/-- `LD E,(HL)` (R102). -/
def execLdEMemHL (s : State) : Result := .next (ldRegAtHL .e s)

/-- `LD E,A` (R100). -/
def execLdEA (s : State) : Result := .next (ldRegReg .e .a s)

/-- `LD H,B` (R100). -/
def execLdHB (s : State) : Result := .next (ldRegReg .h .b s)

/-- `LD H,C` (R100). -/
def execLdHC (s : State) : Result := .next (ldRegReg .h .c s)

/-- `LD H,D` (R100). -/
def execLdHD (s : State) : Result := .next (ldRegReg .h .d s)

/-- `LD H,E` (R100). -/
def execLdHE (s : State) : Result := .next (ldRegReg .h .e s)

/-- `LD H,H` (R100). -/
def execLdHH (s : State) : Result := .next (ldRegReg .h .h s)

/-- `LD H,L` (R100). -/
def execLdHL (s : State) : Result := .next (ldRegReg .h .l s)

/-- `LD H,(HL)` (R102). -/
def execLdHMemHL (s : State) : Result := .next (ldRegAtHL .h s)

/-- `LD H,A` (R100). -/
def execLdHA (s : State) : Result := .next (ldRegReg .h .a s)

/-- `LD L,B` (R100). -/
def execLdLB (s : State) : Result := .next (ldRegReg .l .b s)

/-- `LD L,C` (R100). -/
def execLdLC (s : State) : Result := .next (ldRegReg .l .c s)

/-- `LD L,D` (R100). -/
def execLdLD (s : State) : Result := .next (ldRegReg .l .d s)

/-- `LD L,E` (R100). -/
def execLdLE (s : State) : Result := .next (ldRegReg .l .e s)

/-- `LD L,H` (R100). -/
def execLdLH (s : State) : Result := .next (ldRegReg .l .h s)

/-- `LD L,L` (R100). -/
def execLdLL (s : State) : Result := .next (ldRegReg .l .l s)

/-- `LD L,(HL)` (R102). -/
def execLdLMemHL (s : State) : Result := .next (ldRegAtHL .l s)

/-- `LD L,A` (R100). -/
def execLdLA (s : State) : Result := .next (ldRegReg .l .a s)

/-- `LD (HL),B` (R103). -/
def execLdMemHLB (s : State) : Result := .next (ldAtHLReg .b s)

/-- `LD (HL),C` (R103). -/
def execLdMemHLC (s : State) : Result := .next (ldAtHLReg .c s)

/-- `LD (HL),D` (R103). -/
def execLdMemHLD (s : State) : Result := .next (ldAtHLReg .d s)

/-- `LD (HL),E` (R103). -/
def execLdMemHLE (s : State) : Result := .next (ldAtHLReg .e s)

/-- `LD (HL),H` (R103). -/
def execLdMemHLH (s : State) : Result := .next (ldAtHLReg .h s)

/-- `LD (HL),L` (R103). -/
def execLdMemHLL (s : State) : Result := .next (ldAtHLReg .l s)

/-- `LD (HL),A` (R103). -/
def execLdMemHLA (s : State) : Result := .next (ldAtHLReg .a s)

/-- `LD A,B` (R100). -/
def execLdAB (s : State) : Result := .next (ldRegReg .a .b s)

/-- `LD A,C` (R100). -/
def execLdAC (s : State) : Result := .next (ldRegReg .a .c s)

/-- `LD A,D` (R100). -/
def execLdAD (s : State) : Result := .next (ldRegReg .a .d s)

/-- `LD A,E` (R100). -/
def execLdAE (s : State) : Result := .next (ldRegReg .a .e s)

/-- `LD A,H` (R100). -/
def execLdAH (s : State) : Result := .next (ldRegReg .a .h s)

/-- `LD A,L` (R100). -/
def execLdAL (s : State) : Result := .next (ldRegReg .a .l s)

/-- `LD A,(HL)` (R102). -/
def execLdAMemHL (s : State) : Result := .next (ldRegAtHL .a s)

/-- `LD A,A` (R100). -/
def execLdAA (s : State) : Result := .next (ldRegReg .a .a s)

/-- `LDH (a8),A` (R113). -/
def execLdhMemA8A (a : Byte) (s : State) : Result := .next (ldToA (highPage a) 2 3 s)

/-- `LDH (C),A` (R115). -/
def execLdhMemCA (s : State) : Result := .next (ldToA (highPage s.c) 1 2 s)

/-- `LD (a16),A` (R110). -/
def execLdMemA16A (a : Word) (s : State) : Result := .next (ldToA a 3 4 s)

/-- `LDH A,(a8)` (R112). -/
def execLdhAMemA8 (a : Byte) (s : State) : Result := .next (ldAFrom (highPage a) 2 3 s)

/-- `LDH A,(C)` (R114). -/
def execLdhAMemC (s : State) : Result := .next (ldAFrom (highPage s.c) 1 2 s)

/-- `LD A,(a16)` (R109). -/
def execLdAMemA16 (a : Word) (s : State) : Result := .next (ldAFrom a 3 4 s)

end Sys2Proof.Machine
end

