-- ==== Sys2Proof/Machine/RotateShiftBit.lean ====
section
/-! DEFINITION. Rotates, shifts and bit operations (spec/44_rotate_shift_bit.md). -/

namespace Sys2Proof.Machine

/-- `RLCA`, `RRCA`, `RLA`, `RRA` (R211 to R214): the function on A, with Z forced to 0. -/
def rotA (op : RotOp) (s : State) : State :=
  let o := rot8 op s.a s.flagC
  ((s.setR8 .a o.r).setFlags false false false o.cout).finish 1 1

/-- The CB-prefixed rotates and shifts of a register (R215 to R229, the odd rules). -/
def rotReg (op : RotOp) (r : R8) (s : State) : State :=
  let o := rot8 op (s.getR8 r) s.flagC
  ((s.setR8 r o.r).setFlags (o.r == 0#8) false false o.cout).finish 2 2

/-- The CB-prefixed rotates and shifts of the byte at HL (R216 to R230, the even rules). -/
def rotAtHL (op : RotOp) (s : State) : State :=
  let rd := memRead s s.hl
  let o := rot8 op rd.1 s.flagC
  ((memWrite rd.2 s.hl o.r).setFlags (o.r == 0#8) false false o.cout).finish 2 4

/-- `BIT b,r8` (R231): C is not written. -/
def bitReg (b : Fin 8) (r : R8) (s : State) : State :=
  (s.setFlags (!(s.getR8 r).getLsbD b) false true s.flagC).finish 2 2

/-- `BIT b,(HL)` (R232): memory is not written; C is not written. -/
def bitAtHL (b : Fin 8) (s : State) : State :=
  let rd := memRead s s.hl
  (rd.2.setFlags (!rd.1.getLsbD b) false true s.flagC).finish 2 3

/-- `RES b,r8` (R233). -/
def resReg (b : Fin 8) (r : R8) (s : State) : State := (s.setR8 r (s.getR8 r &&& ~~~bitMask b)).finish 2 2

/-- `RES b,(HL)` (R234): the write happens even when the value is unchanged. -/
def resAtHL (b : Fin 8) (s : State) : State :=
  let rd := memRead s s.hl
  (memWrite rd.2 s.hl (rd.1 &&& ~~~bitMask b)).finish 2 4

/-- `SET b,r8` (R235). -/
def setReg (b : Fin 8) (r : R8) (s : State) : State := (s.setR8 r (s.getR8 r ||| bitMask b)).finish 2 2

/-- `SET b,(HL)` (R236): the write happens even when the value is unchanged. -/
def setAtHL (b : Fin 8) (s : State) : State :=
  let rd := memRead s s.hl
  (memWrite rd.2 s.hl (rd.1 ||| bitMask b)).finish 2 4

/-! One meaning per instruction. -/

/-- `RLCA` (R211). -/
def execRlca (s : State) : Result := .next (rotA .rlc s)

/-- `RRCA` (R212). -/
def execRrca (s : State) : Result := .next (rotA .rrc s)

/-- `RLA` (R213). -/
def execRla (s : State) : Result := .next (rotA .rl s)

/-- `RRA` (R214). -/
def execRra (s : State) : Result := .next (rotA .rr s)

/-- `RLC B` (R215). -/
def execCbRlcB (s : State) : Result := .next (rotReg .rlc .b s)

/-- `RLC C` (R215). -/
def execCbRlcC (s : State) : Result := .next (rotReg .rlc .c s)

/-- `RLC D` (R215). -/
def execCbRlcD (s : State) : Result := .next (rotReg .rlc .d s)

/-- `RLC E` (R215). -/
def execCbRlcE (s : State) : Result := .next (rotReg .rlc .e s)

/-- `RLC H` (R215). -/
def execCbRlcH (s : State) : Result := .next (rotReg .rlc .h s)

/-- `RLC L` (R215). -/
def execCbRlcL (s : State) : Result := .next (rotReg .rlc .l s)

/-- `RLC (HL)` (R216). -/
def execCbRlcMemHL (s : State) : Result := .next (rotAtHL .rlc s)

/-- `RLC A` (R215). -/
def execCbRlcA (s : State) : Result := .next (rotReg .rlc .a s)

/-- `RRC B` (R217). -/
def execCbRrcB (s : State) : Result := .next (rotReg .rrc .b s)

/-- `RRC C` (R217). -/
def execCbRrcC (s : State) : Result := .next (rotReg .rrc .c s)

/-- `RRC D` (R217). -/
def execCbRrcD (s : State) : Result := .next (rotReg .rrc .d s)

/-- `RRC E` (R217). -/
def execCbRrcE (s : State) : Result := .next (rotReg .rrc .e s)

/-- `RRC H` (R217). -/
def execCbRrcH (s : State) : Result := .next (rotReg .rrc .h s)

/-- `RRC L` (R217). -/
def execCbRrcL (s : State) : Result := .next (rotReg .rrc .l s)

/-- `RRC (HL)` (R218). -/
def execCbRrcMemHL (s : State) : Result := .next (rotAtHL .rrc s)

/-- `RRC A` (R217). -/
def execCbRrcA (s : State) : Result := .next (rotReg .rrc .a s)

/-- `RL B` (R219). -/
def execCbRlB (s : State) : Result := .next (rotReg .rl .b s)

/-- `RL C` (R219). -/
def execCbRlC (s : State) : Result := .next (rotReg .rl .c s)

/-- `RL D` (R219). -/
def execCbRlD (s : State) : Result := .next (rotReg .rl .d s)

/-- `RL E` (R219). -/
def execCbRlE (s : State) : Result := .next (rotReg .rl .e s)

/-- `RL H` (R219). -/
def execCbRlH (s : State) : Result := .next (rotReg .rl .h s)

/-- `RL L` (R219). -/
def execCbRlL (s : State) : Result := .next (rotReg .rl .l s)

/-- `RL (HL)` (R220). -/
def execCbRlMemHL (s : State) : Result := .next (rotAtHL .rl s)

/-- `RL A` (R219). -/
def execCbRlA (s : State) : Result := .next (rotReg .rl .a s)

/-- `RR B` (R221). -/
def execCbRrB (s : State) : Result := .next (rotReg .rr .b s)

/-- `RR C` (R221). -/
def execCbRrC (s : State) : Result := .next (rotReg .rr .c s)

/-- `RR D` (R221). -/
def execCbRrD (s : State) : Result := .next (rotReg .rr .d s)

/-- `RR E` (R221). -/
def execCbRrE (s : State) : Result := .next (rotReg .rr .e s)

/-- `RR H` (R221). -/
def execCbRrH (s : State) : Result := .next (rotReg .rr .h s)

/-- `RR L` (R221). -/
def execCbRrL (s : State) : Result := .next (rotReg .rr .l s)

/-- `RR (HL)` (R222). -/
def execCbRrMemHL (s : State) : Result := .next (rotAtHL .rr s)

/-- `RR A` (R221). -/
def execCbRrA (s : State) : Result := .next (rotReg .rr .a s)

/-- `SLA B` (R223). -/
def execCbSlaB (s : State) : Result := .next (rotReg .sla .b s)

/-- `SLA C` (R223). -/
def execCbSlaC (s : State) : Result := .next (rotReg .sla .c s)

/-- `SLA D` (R223). -/
def execCbSlaD (s : State) : Result := .next (rotReg .sla .d s)

/-- `SLA E` (R223). -/
def execCbSlaE (s : State) : Result := .next (rotReg .sla .e s)

/-- `SLA H` (R223). -/
def execCbSlaH (s : State) : Result := .next (rotReg .sla .h s)

/-- `SLA L` (R223). -/
def execCbSlaL (s : State) : Result := .next (rotReg .sla .l s)

/-- `SLA (HL)` (R224). -/
def execCbSlaMemHL (s : State) : Result := .next (rotAtHL .sla s)

/-- `SLA A` (R223). -/
def execCbSlaA (s : State) : Result := .next (rotReg .sla .a s)

/-- `SRA B` (R225). -/
def execCbSraB (s : State) : Result := .next (rotReg .sra .b s)

/-- `SRA C` (R225). -/
def execCbSraC (s : State) : Result := .next (rotReg .sra .c s)

/-- `SRA D` (R225). -/
def execCbSraD (s : State) : Result := .next (rotReg .sra .d s)

/-- `SRA E` (R225). -/
def execCbSraE (s : State) : Result := .next (rotReg .sra .e s)

/-- `SRA H` (R225). -/
def execCbSraH (s : State) : Result := .next (rotReg .sra .h s)

/-- `SRA L` (R225). -/
def execCbSraL (s : State) : Result := .next (rotReg .sra .l s)

/-- `SRA (HL)` (R226). -/
def execCbSraMemHL (s : State) : Result := .next (rotAtHL .sra s)

/-- `SRA A` (R225). -/
def execCbSraA (s : State) : Result := .next (rotReg .sra .a s)

/-- `SWAP B` (R227). -/
def execCbSwapB (s : State) : Result := .next (rotReg .swap .b s)

/-- `SWAP C` (R227). -/
def execCbSwapC (s : State) : Result := .next (rotReg .swap .c s)

/-- `SWAP D` (R227). -/
def execCbSwapD (s : State) : Result := .next (rotReg .swap .d s)

/-- `SWAP E` (R227). -/
def execCbSwapE (s : State) : Result := .next (rotReg .swap .e s)

/-- `SWAP H` (R227). -/
def execCbSwapH (s : State) : Result := .next (rotReg .swap .h s)

/-- `SWAP L` (R227). -/
def execCbSwapL (s : State) : Result := .next (rotReg .swap .l s)

/-- `SWAP (HL)` (R228). -/
def execCbSwapMemHL (s : State) : Result := .next (rotAtHL .swap s)

/-- `SWAP A` (R227). -/
def execCbSwapA (s : State) : Result := .next (rotReg .swap .a s)

/-- `SRL B` (R229). -/
def execCbSrlB (s : State) : Result := .next (rotReg .srl .b s)

/-- `SRL C` (R229). -/
def execCbSrlC (s : State) : Result := .next (rotReg .srl .c s)

/-- `SRL D` (R229). -/
def execCbSrlD (s : State) : Result := .next (rotReg .srl .d s)

/-- `SRL E` (R229). -/
def execCbSrlE (s : State) : Result := .next (rotReg .srl .e s)

/-- `SRL H` (R229). -/
def execCbSrlH (s : State) : Result := .next (rotReg .srl .h s)

/-- `SRL L` (R229). -/
def execCbSrlL (s : State) : Result := .next (rotReg .srl .l s)

/-- `SRL (HL)` (R230). -/
def execCbSrlMemHL (s : State) : Result := .next (rotAtHL .srl s)

/-- `SRL A` (R229). -/
def execCbSrlA (s : State) : Result := .next (rotReg .srl .a s)

/-- `BIT 0,B` (R231). -/
def execBit0B (s : State) : Result := .next (bitReg 0 .b s)

/-- `BIT 0,C` (R231). -/
def execBit0C (s : State) : Result := .next (bitReg 0 .c s)

/-- `BIT 0,D` (R231). -/
def execBit0D (s : State) : Result := .next (bitReg 0 .d s)

/-- `BIT 0,E` (R231). -/
def execBit0E (s : State) : Result := .next (bitReg 0 .e s)

/-- `BIT 0,H` (R231). -/
def execBit0H (s : State) : Result := .next (bitReg 0 .h s)

/-- `BIT 0,L` (R231). -/
def execBit0L (s : State) : Result := .next (bitReg 0 .l s)

/-- `BIT 0,(HL)` (R232). -/
def execBit0MemHL (s : State) : Result := .next (bitAtHL 0 s)

/-- `BIT 0,A` (R231). -/
def execBit0A (s : State) : Result := .next (bitReg 0 .a s)

/-- `BIT 1,B` (R231). -/
def execBit1B (s : State) : Result := .next (bitReg 1 .b s)

/-- `BIT 1,C` (R231). -/
def execBit1C (s : State) : Result := .next (bitReg 1 .c s)

/-- `BIT 1,D` (R231). -/
def execBit1D (s : State) : Result := .next (bitReg 1 .d s)

/-- `BIT 1,E` (R231). -/
def execBit1E (s : State) : Result := .next (bitReg 1 .e s)

/-- `BIT 1,H` (R231). -/
def execBit1H (s : State) : Result := .next (bitReg 1 .h s)

/-- `BIT 1,L` (R231). -/
def execBit1L (s : State) : Result := .next (bitReg 1 .l s)

/-- `BIT 1,(HL)` (R232). -/
def execBit1MemHL (s : State) : Result := .next (bitAtHL 1 s)

/-- `BIT 1,A` (R231). -/
def execBit1A (s : State) : Result := .next (bitReg 1 .a s)

/-- `BIT 2,B` (R231). -/
def execBit2B (s : State) : Result := .next (bitReg 2 .b s)

/-- `BIT 2,C` (R231). -/
def execBit2C (s : State) : Result := .next (bitReg 2 .c s)

/-- `BIT 2,D` (R231). -/
def execBit2D (s : State) : Result := .next (bitReg 2 .d s)

/-- `BIT 2,E` (R231). -/
def execBit2E (s : State) : Result := .next (bitReg 2 .e s)

/-- `BIT 2,H` (R231). -/
def execBit2H (s : State) : Result := .next (bitReg 2 .h s)

/-- `BIT 2,L` (R231). -/
def execBit2L (s : State) : Result := .next (bitReg 2 .l s)

/-- `BIT 2,(HL)` (R232). -/
def execBit2MemHL (s : State) : Result := .next (bitAtHL 2 s)

/-- `BIT 2,A` (R231). -/
def execBit2A (s : State) : Result := .next (bitReg 2 .a s)

/-- `BIT 3,B` (R231). -/
def execBit3B (s : State) : Result := .next (bitReg 3 .b s)

/-- `BIT 3,C` (R231). -/
def execBit3C (s : State) : Result := .next (bitReg 3 .c s)

/-- `BIT 3,D` (R231). -/
def execBit3D (s : State) : Result := .next (bitReg 3 .d s)

/-- `BIT 3,E` (R231). -/
def execBit3E (s : State) : Result := .next (bitReg 3 .e s)

/-- `BIT 3,H` (R231). -/
def execBit3H (s : State) : Result := .next (bitReg 3 .h s)

/-- `BIT 3,L` (R231). -/
def execBit3L (s : State) : Result := .next (bitReg 3 .l s)

/-- `BIT 3,(HL)` (R232). -/
def execBit3MemHL (s : State) : Result := .next (bitAtHL 3 s)

/-- `BIT 3,A` (R231). -/
def execBit3A (s : State) : Result := .next (bitReg 3 .a s)

/-- `BIT 4,B` (R231). -/
def execBit4B (s : State) : Result := .next (bitReg 4 .b s)

/-- `BIT 4,C` (R231). -/
def execBit4C (s : State) : Result := .next (bitReg 4 .c s)

/-- `BIT 4,D` (R231). -/
def execBit4D (s : State) : Result := .next (bitReg 4 .d s)

/-- `BIT 4,E` (R231). -/
def execBit4E (s : State) : Result := .next (bitReg 4 .e s)

/-- `BIT 4,H` (R231). -/
def execBit4H (s : State) : Result := .next (bitReg 4 .h s)

/-- `BIT 4,L` (R231). -/
def execBit4L (s : State) : Result := .next (bitReg 4 .l s)

/-- `BIT 4,(HL)` (R232). -/
def execBit4MemHL (s : State) : Result := .next (bitAtHL 4 s)

/-- `BIT 4,A` (R231). -/
def execBit4A (s : State) : Result := .next (bitReg 4 .a s)

/-- `BIT 5,B` (R231). -/
def execBit5B (s : State) : Result := .next (bitReg 5 .b s)

/-- `BIT 5,C` (R231). -/
def execBit5C (s : State) : Result := .next (bitReg 5 .c s)

/-- `BIT 5,D` (R231). -/
def execBit5D (s : State) : Result := .next (bitReg 5 .d s)

/-- `BIT 5,E` (R231). -/
def execBit5E (s : State) : Result := .next (bitReg 5 .e s)

/-- `BIT 5,H` (R231). -/
def execBit5H (s : State) : Result := .next (bitReg 5 .h s)

/-- `BIT 5,L` (R231). -/
def execBit5L (s : State) : Result := .next (bitReg 5 .l s)

/-- `BIT 5,(HL)` (R232). -/
def execBit5MemHL (s : State) : Result := .next (bitAtHL 5 s)

/-- `BIT 5,A` (R231). -/
def execBit5A (s : State) : Result := .next (bitReg 5 .a s)

/-- `BIT 6,B` (R231). -/
def execBit6B (s : State) : Result := .next (bitReg 6 .b s)

/-- `BIT 6,C` (R231). -/
def execBit6C (s : State) : Result := .next (bitReg 6 .c s)

/-- `BIT 6,D` (R231). -/
def execBit6D (s : State) : Result := .next (bitReg 6 .d s)

/-- `BIT 6,E` (R231). -/
def execBit6E (s : State) : Result := .next (bitReg 6 .e s)

/-- `BIT 6,H` (R231). -/
def execBit6H (s : State) : Result := .next (bitReg 6 .h s)

/-- `BIT 6,L` (R231). -/
def execBit6L (s : State) : Result := .next (bitReg 6 .l s)

/-- `BIT 6,(HL)` (R232). -/
def execBit6MemHL (s : State) : Result := .next (bitAtHL 6 s)

/-- `BIT 6,A` (R231). -/
def execBit6A (s : State) : Result := .next (bitReg 6 .a s)

/-- `BIT 7,B` (R231). -/
def execBit7B (s : State) : Result := .next (bitReg 7 .b s)

/-- `BIT 7,C` (R231). -/
def execBit7C (s : State) : Result := .next (bitReg 7 .c s)

/-- `BIT 7,D` (R231). -/
def execBit7D (s : State) : Result := .next (bitReg 7 .d s)

/-- `BIT 7,E` (R231). -/
def execBit7E (s : State) : Result := .next (bitReg 7 .e s)

/-- `BIT 7,H` (R231). -/
def execBit7H (s : State) : Result := .next (bitReg 7 .h s)

/-- `BIT 7,L` (R231). -/
def execBit7L (s : State) : Result := .next (bitReg 7 .l s)

/-- `BIT 7,(HL)` (R232). -/
def execBit7MemHL (s : State) : Result := .next (bitAtHL 7 s)

/-- `BIT 7,A` (R231). -/
def execBit7A (s : State) : Result := .next (bitReg 7 .a s)

/-- `RES 0,B` (R233). -/
def execRes0B (s : State) : Result := .next (resReg 0 .b s)

/-- `RES 0,C` (R233). -/
def execRes0C (s : State) : Result := .next (resReg 0 .c s)

/-- `RES 0,D` (R233). -/
def execRes0D (s : State) : Result := .next (resReg 0 .d s)

/-- `RES 0,E` (R233). -/
def execRes0E (s : State) : Result := .next (resReg 0 .e s)

/-- `RES 0,H` (R233). -/
def execRes0H (s : State) : Result := .next (resReg 0 .h s)

/-- `RES 0,L` (R233). -/
def execRes0L (s : State) : Result := .next (resReg 0 .l s)

/-- `RES 0,(HL)` (R234). -/
def execRes0MemHL (s : State) : Result := .next (resAtHL 0 s)

/-- `RES 0,A` (R233). -/
def execRes0A (s : State) : Result := .next (resReg 0 .a s)

/-- `RES 1,B` (R233). -/
def execRes1B (s : State) : Result := .next (resReg 1 .b s)

/-- `RES 1,C` (R233). -/
def execRes1C (s : State) : Result := .next (resReg 1 .c s)

/-- `RES 1,D` (R233). -/
def execRes1D (s : State) : Result := .next (resReg 1 .d s)

/-- `RES 1,E` (R233). -/
def execRes1E (s : State) : Result := .next (resReg 1 .e s)

/-- `RES 1,H` (R233). -/
def execRes1H (s : State) : Result := .next (resReg 1 .h s)

/-- `RES 1,L` (R233). -/
def execRes1L (s : State) : Result := .next (resReg 1 .l s)

/-- `RES 1,(HL)` (R234). -/
def execRes1MemHL (s : State) : Result := .next (resAtHL 1 s)

/-- `RES 1,A` (R233). -/
def execRes1A (s : State) : Result := .next (resReg 1 .a s)

/-- `RES 2,B` (R233). -/
def execRes2B (s : State) : Result := .next (resReg 2 .b s)

/-- `RES 2,C` (R233). -/
def execRes2C (s : State) : Result := .next (resReg 2 .c s)

/-- `RES 2,D` (R233). -/
def execRes2D (s : State) : Result := .next (resReg 2 .d s)

/-- `RES 2,E` (R233). -/
def execRes2E (s : State) : Result := .next (resReg 2 .e s)

/-- `RES 2,H` (R233). -/
def execRes2H (s : State) : Result := .next (resReg 2 .h s)

/-- `RES 2,L` (R233). -/
def execRes2L (s : State) : Result := .next (resReg 2 .l s)

/-- `RES 2,(HL)` (R234). -/
def execRes2MemHL (s : State) : Result := .next (resAtHL 2 s)

/-- `RES 2,A` (R233). -/
def execRes2A (s : State) : Result := .next (resReg 2 .a s)

/-- `RES 3,B` (R233). -/
def execRes3B (s : State) : Result := .next (resReg 3 .b s)

/-- `RES 3,C` (R233). -/
def execRes3C (s : State) : Result := .next (resReg 3 .c s)

/-- `RES 3,D` (R233). -/
def execRes3D (s : State) : Result := .next (resReg 3 .d s)

/-- `RES 3,E` (R233). -/
def execRes3E (s : State) : Result := .next (resReg 3 .e s)

/-- `RES 3,H` (R233). -/
def execRes3H (s : State) : Result := .next (resReg 3 .h s)

/-- `RES 3,L` (R233). -/
def execRes3L (s : State) : Result := .next (resReg 3 .l s)

/-- `RES 3,(HL)` (R234). -/
def execRes3MemHL (s : State) : Result := .next (resAtHL 3 s)

/-- `RES 3,A` (R233). -/
def execRes3A (s : State) : Result := .next (resReg 3 .a s)

/-- `RES 4,B` (R233). -/
def execRes4B (s : State) : Result := .next (resReg 4 .b s)

/-- `RES 4,C` (R233). -/
def execRes4C (s : State) : Result := .next (resReg 4 .c s)

/-- `RES 4,D` (R233). -/
def execRes4D (s : State) : Result := .next (resReg 4 .d s)

/-- `RES 4,E` (R233). -/
def execRes4E (s : State) : Result := .next (resReg 4 .e s)

/-- `RES 4,H` (R233). -/
def execRes4H (s : State) : Result := .next (resReg 4 .h s)

/-- `RES 4,L` (R233). -/
def execRes4L (s : State) : Result := .next (resReg 4 .l s)

/-- `RES 4,(HL)` (R234). -/
def execRes4MemHL (s : State) : Result := .next (resAtHL 4 s)

/-- `RES 4,A` (R233). -/
def execRes4A (s : State) : Result := .next (resReg 4 .a s)

/-- `RES 5,B` (R233). -/
def execRes5B (s : State) : Result := .next (resReg 5 .b s)

/-- `RES 5,C` (R233). -/
def execRes5C (s : State) : Result := .next (resReg 5 .c s)

/-- `RES 5,D` (R233). -/
def execRes5D (s : State) : Result := .next (resReg 5 .d s)

/-- `RES 5,E` (R233). -/
def execRes5E (s : State) : Result := .next (resReg 5 .e s)

/-- `RES 5,H` (R233). -/
def execRes5H (s : State) : Result := .next (resReg 5 .h s)

/-- `RES 5,L` (R233). -/
def execRes5L (s : State) : Result := .next (resReg 5 .l s)

/-- `RES 5,(HL)` (R234). -/
def execRes5MemHL (s : State) : Result := .next (resAtHL 5 s)

/-- `RES 5,A` (R233). -/
def execRes5A (s : State) : Result := .next (resReg 5 .a s)

/-- `RES 6,B` (R233). -/
def execRes6B (s : State) : Result := .next (resReg 6 .b s)

/-- `RES 6,C` (R233). -/
def execRes6C (s : State) : Result := .next (resReg 6 .c s)

/-- `RES 6,D` (R233). -/
def execRes6D (s : State) : Result := .next (resReg 6 .d s)

/-- `RES 6,E` (R233). -/
def execRes6E (s : State) : Result := .next (resReg 6 .e s)

/-- `RES 6,H` (R233). -/
def execRes6H (s : State) : Result := .next (resReg 6 .h s)

/-- `RES 6,L` (R233). -/
def execRes6L (s : State) : Result := .next (resReg 6 .l s)

/-- `RES 6,(HL)` (R234). -/
def execRes6MemHL (s : State) : Result := .next (resAtHL 6 s)

/-- `RES 6,A` (R233). -/
def execRes6A (s : State) : Result := .next (resReg 6 .a s)

/-- `RES 7,B` (R233). -/
def execRes7B (s : State) : Result := .next (resReg 7 .b s)

/-- `RES 7,C` (R233). -/
def execRes7C (s : State) : Result := .next (resReg 7 .c s)

/-- `RES 7,D` (R233). -/
def execRes7D (s : State) : Result := .next (resReg 7 .d s)

/-- `RES 7,E` (R233). -/
def execRes7E (s : State) : Result := .next (resReg 7 .e s)

/-- `RES 7,H` (R233). -/
def execRes7H (s : State) : Result := .next (resReg 7 .h s)

/-- `RES 7,L` (R233). -/
def execRes7L (s : State) : Result := .next (resReg 7 .l s)

/-- `RES 7,(HL)` (R234). -/
def execRes7MemHL (s : State) : Result := .next (resAtHL 7 s)

/-- `RES 7,A` (R233). -/
def execRes7A (s : State) : Result := .next (resReg 7 .a s)

/-- `SET 0,B` (R235). -/
def execSet0B (s : State) : Result := .next (setReg 0 .b s)

/-- `SET 0,C` (R235). -/
def execSet0C (s : State) : Result := .next (setReg 0 .c s)

/-- `SET 0,D` (R235). -/
def execSet0D (s : State) : Result := .next (setReg 0 .d s)

/-- `SET 0,E` (R235). -/
def execSet0E (s : State) : Result := .next (setReg 0 .e s)

/-- `SET 0,H` (R235). -/
def execSet0H (s : State) : Result := .next (setReg 0 .h s)

/-- `SET 0,L` (R235). -/
def execSet0L (s : State) : Result := .next (setReg 0 .l s)

/-- `SET 0,(HL)` (R236). -/
def execSet0MemHL (s : State) : Result := .next (setAtHL 0 s)

/-- `SET 0,A` (R235). -/
def execSet0A (s : State) : Result := .next (setReg 0 .a s)

/-- `SET 1,B` (R235). -/
def execSet1B (s : State) : Result := .next (setReg 1 .b s)

/-- `SET 1,C` (R235). -/
def execSet1C (s : State) : Result := .next (setReg 1 .c s)

/-- `SET 1,D` (R235). -/
def execSet1D (s : State) : Result := .next (setReg 1 .d s)

/-- `SET 1,E` (R235). -/
def execSet1E (s : State) : Result := .next (setReg 1 .e s)

/-- `SET 1,H` (R235). -/
def execSet1H (s : State) : Result := .next (setReg 1 .h s)

/-- `SET 1,L` (R235). -/
def execSet1L (s : State) : Result := .next (setReg 1 .l s)

/-- `SET 1,(HL)` (R236). -/
def execSet1MemHL (s : State) : Result := .next (setAtHL 1 s)

/-- `SET 1,A` (R235). -/
def execSet1A (s : State) : Result := .next (setReg 1 .a s)

/-- `SET 2,B` (R235). -/
def execSet2B (s : State) : Result := .next (setReg 2 .b s)

/-- `SET 2,C` (R235). -/
def execSet2C (s : State) : Result := .next (setReg 2 .c s)

/-- `SET 2,D` (R235). -/
def execSet2D (s : State) : Result := .next (setReg 2 .d s)

/-- `SET 2,E` (R235). -/
def execSet2E (s : State) : Result := .next (setReg 2 .e s)

/-- `SET 2,H` (R235). -/
def execSet2H (s : State) : Result := .next (setReg 2 .h s)

/-- `SET 2,L` (R235). -/
def execSet2L (s : State) : Result := .next (setReg 2 .l s)

/-- `SET 2,(HL)` (R236). -/
def execSet2MemHL (s : State) : Result := .next (setAtHL 2 s)

/-- `SET 2,A` (R235). -/
def execSet2A (s : State) : Result := .next (setReg 2 .a s)

/-- `SET 3,B` (R235). -/
def execSet3B (s : State) : Result := .next (setReg 3 .b s)

/-- `SET 3,C` (R235). -/
def execSet3C (s : State) : Result := .next (setReg 3 .c s)

/-- `SET 3,D` (R235). -/
def execSet3D (s : State) : Result := .next (setReg 3 .d s)

/-- `SET 3,E` (R235). -/
def execSet3E (s : State) : Result := .next (setReg 3 .e s)

/-- `SET 3,H` (R235). -/
def execSet3H (s : State) : Result := .next (setReg 3 .h s)

/-- `SET 3,L` (R235). -/
def execSet3L (s : State) : Result := .next (setReg 3 .l s)

/-- `SET 3,(HL)` (R236). -/
def execSet3MemHL (s : State) : Result := .next (setAtHL 3 s)

/-- `SET 3,A` (R235). -/
def execSet3A (s : State) : Result := .next (setReg 3 .a s)

/-- `SET 4,B` (R235). -/
def execSet4B (s : State) : Result := .next (setReg 4 .b s)

/-- `SET 4,C` (R235). -/
def execSet4C (s : State) : Result := .next (setReg 4 .c s)

/-- `SET 4,D` (R235). -/
def execSet4D (s : State) : Result := .next (setReg 4 .d s)

/-- `SET 4,E` (R235). -/
def execSet4E (s : State) : Result := .next (setReg 4 .e s)

/-- `SET 4,H` (R235). -/
def execSet4H (s : State) : Result := .next (setReg 4 .h s)

/-- `SET 4,L` (R235). -/
def execSet4L (s : State) : Result := .next (setReg 4 .l s)

/-- `SET 4,(HL)` (R236). -/
def execSet4MemHL (s : State) : Result := .next (setAtHL 4 s)

/-- `SET 4,A` (R235). -/
def execSet4A (s : State) : Result := .next (setReg 4 .a s)

/-- `SET 5,B` (R235). -/
def execSet5B (s : State) : Result := .next (setReg 5 .b s)

/-- `SET 5,C` (R235). -/
def execSet5C (s : State) : Result := .next (setReg 5 .c s)

/-- `SET 5,D` (R235). -/
def execSet5D (s : State) : Result := .next (setReg 5 .d s)

/-- `SET 5,E` (R235). -/
def execSet5E (s : State) : Result := .next (setReg 5 .e s)

/-- `SET 5,H` (R235). -/
def execSet5H (s : State) : Result := .next (setReg 5 .h s)

/-- `SET 5,L` (R235). -/
def execSet5L (s : State) : Result := .next (setReg 5 .l s)

/-- `SET 5,(HL)` (R236). -/
def execSet5MemHL (s : State) : Result := .next (setAtHL 5 s)

/-- `SET 5,A` (R235). -/
def execSet5A (s : State) : Result := .next (setReg 5 .a s)

/-- `SET 6,B` (R235). -/
def execSet6B (s : State) : Result := .next (setReg 6 .b s)

/-- `SET 6,C` (R235). -/
def execSet6C (s : State) : Result := .next (setReg 6 .c s)

/-- `SET 6,D` (R235). -/
def execSet6D (s : State) : Result := .next (setReg 6 .d s)

/-- `SET 6,E` (R235). -/
def execSet6E (s : State) : Result := .next (setReg 6 .e s)

/-- `SET 6,H` (R235). -/
def execSet6H (s : State) : Result := .next (setReg 6 .h s)

/-- `SET 6,L` (R235). -/
def execSet6L (s : State) : Result := .next (setReg 6 .l s)

/-- `SET 6,(HL)` (R236). -/
def execSet6MemHL (s : State) : Result := .next (setAtHL 6 s)

/-- `SET 6,A` (R235). -/
def execSet6A (s : State) : Result := .next (setReg 6 .a s)

/-- `SET 7,B` (R235). -/
def execSet7B (s : State) : Result := .next (setReg 7 .b s)

/-- `SET 7,C` (R235). -/
def execSet7C (s : State) : Result := .next (setReg 7 .c s)

/-- `SET 7,D` (R235). -/
def execSet7D (s : State) : Result := .next (setReg 7 .d s)

/-- `SET 7,E` (R235). -/
def execSet7E (s : State) : Result := .next (setReg 7 .e s)

/-- `SET 7,H` (R235). -/
def execSet7H (s : State) : Result := .next (setReg 7 .h s)

/-- `SET 7,L` (R235). -/
def execSet7L (s : State) : Result := .next (setReg 7 .l s)

/-- `SET 7,(HL)` (R236). -/
def execSet7MemHL (s : State) : Result := .next (setAtHL 7 s)

/-- `SET 7,A` (R235). -/
def execSet7A (s : State) : Result := .next (setReg 7 .a s)

end Sys2Proof.Machine
end

