-- ==== Sys2Proof/Machine/SystemInstr.lean ====
section
/-! DEFINITION. The system instructions and the illegal opcodes (spec/46_system.md). -/

namespace Sys2Proof.Machine

/-! One meaning per instruction. -/

/-- `NOP` (R270): no effect but PC. -/
def execNop (s : State) : Result := .next (s.finish 1 1)

/-- `STOP` (R272): run state Stopped; the second byte is ignored. -/
def execStop (_n : Byte) (s : State) : Result := .next (State.finish { s with run := .stopped } 2 1)

/-- `HALT` (R271): run state Halted; PC addresses the byte after it. -/
def execHalt (s : State) : Result := .next (State.finish { s with run := .halted } 1 1)

/-- The illegal byte 0xD3 (R275). -/
def execIllegalD3 (s : State) : Result := .next (takeInvalidOpcode 0xD3#8 s)

/-- The illegal byte 0xDB (R275). -/
def execIllegalDB (s : State) : Result := .next (takeInvalidOpcode 0xDB#8 s)

/-- The illegal byte 0xDD (R275). -/
def execIllegalDD (s : State) : Result := .next (takeInvalidOpcode 0xDD#8 s)

/-- The illegal byte 0xE3 (R275). -/
def execIllegalE3 (s : State) : Result := .next (takeInvalidOpcode 0xE3#8 s)

/-- The illegal byte 0xE4 (R275). -/
def execIllegalE4 (s : State) : Result := .next (takeInvalidOpcode 0xE4#8 s)

/-- The illegal byte 0xEB (R275). -/
def execIllegalEB (s : State) : Result := .next (takeInvalidOpcode 0xEB#8 s)

/-- The illegal byte 0xEC (R275). -/
def execIllegalEC (s : State) : Result := .next (takeInvalidOpcode 0xEC#8 s)

/-- The illegal byte 0xED (R275). -/
def execIllegalED (s : State) : Result := .next (takeInvalidOpcode 0xED#8 s)

/-- `DI` (R273): IME and IME_pending are cleared at once. -/
def execDi (s : State) : Result := .next (State.finish { s with ime := false, imePending := false } 1 1)

/-- The illegal byte 0xF4 (R275). -/
def execIllegalF4 (s : State) : Result := .next (takeInvalidOpcode 0xF4#8 s)

/-- `EI` (R274): IME_pending is set; IME is not written. -/
def execEi (s : State) : Result := .next (State.finish { s with imePending := true } 1 1)

/-- The illegal byte 0xFC (R275). -/
def execIllegalFC (s : State) : Result := .next (takeInvalidOpcode 0xFC#8 s)

/-- The illegal byte 0xFD (R275). -/
def execIllegalFD (s : State) : Result := .next (takeInvalidOpcode 0xFD#8 s)

end Sys2Proof.Machine
end

