-- ==== Sys2Proof/Decode.lean ====
section
/-! DEFINITION. Encoding and decoding (spec/30_encoding.md). The decoder reads the fields `x`, `y`, `z`, `p`, `q` of
R70 and R79; the encoder is written from the two opcode maps of R79 and R80. -/

namespace Sys2Proof

/-- The code of an `r8` register (R74). -/
def R8.code : R8 → Nat
  | .b => 0
  | .c => 1
  | .d => 2
  | .e => 3
  | .h => 4
  | .l => 5
  | .a => 7

/-- The code of an `r8` field's operand (R74). -/
def Loc.code : Loc → Nat
  | .reg r => r.code
  | .atHL => 6

/-- The code of a pair (R75, first column). -/
def R16.code : R16 → Nat
  | .bc => 0
  | .de => 1
  | .hl => 2
  | .sp => 3

/-- The code of a pair (R75, second column). -/
def R16Stk.code : R16Stk → Nat
  | .bc => 0
  | .de => 1
  | .hl => 2
  | .af => 3

/-- The code of an address operand (R75, third column). -/
def R16Mem.code : R16Mem → Nat
  | .bc => 0
  | .de => 1
  | .hlInc => 2
  | .hlDec => 3

/-- The code of a condition (R77). -/
def Cond.code : Cond → Nat
  | .nz => 0
  | .z => 1
  | .nc => 2
  | .c => 3

/-- The code of an accumulator operation (R76 (a)). -/
def AluOp.code : AluOp → Nat
  | .add => 0
  | .adc => 1
  | .sub => 2
  | .sbc => 3
  | .and => 4
  | .xor => 5
  | .or => 6
  | .cp => 7

/-- The code of a rotate or shift operation (R76 (b)). -/
def RotOp.code : RotOp → Nat
  | .rlc => 0
  | .rrc => 1
  | .rl => 2
  | .rr => 3
  | .sla => 4
  | .sra => 5
  | .swap => 6
  | .srl => 7

/-- The operand of an `r8` field (R74). -/
def Loc.ofCode : Nat → Loc
  | 0 => .reg .b
  | 1 => .reg .c
  | 2 => .reg .d
  | 3 => .reg .e
  | 4 => .reg .h
  | 5 => .reg .l
  | 6 => .atHL
  | _ => .reg .a

/-- The pair of an `r16` field (R75, first column). -/
def R16.ofCode : Nat → R16
  | 0 => .bc
  | 1 => .de
  | 2 => .hl
  | _ => .sp

/-- The pair of an `r16stk` field (R75, second column). -/
def R16Stk.ofCode : Nat → R16Stk
  | 0 => .bc
  | 1 => .de
  | 2 => .hl
  | _ => .af

/-- The address of an `r16mem` field (R75, third column). -/
def R16Mem.ofCode : Nat → R16Mem
  | 0 => .bc
  | 1 => .de
  | 2 => .hlInc
  | _ => .hlDec

/-- The condition of a `cc` field (R77). -/
def Cond.ofCode : Nat → Cond
  | 0 => .nz
  | 1 => .z
  | 2 => .nc
  | _ => .c

/-- The accumulator operation of a `y` field (R76 (a)). -/
def AluOp.ofCode : Nat → AluOp
  | 0 => .add
  | 1 => .adc
  | 2 => .sub
  | 3 => .sbc
  | 4 => .and
  | 5 => .xor
  | 6 => .or
  | _ => .cp

/-- The rotate or shift operation of a `y` field (R76 (b)). -/
def RotOp.ofCode : Nat → RotOp
  | 0 => .rlc
  | 1 => .rrc
  | 2 => .rl
  | 3 => .rr
  | 4 => .sla
  | 5 => .sra
  | 6 => .swap
  | _ => .srl

/-! The instruction that an operation and its operand fields select (R79, R80). -/

namespace Sel

/-- `LD r8[y],r8[z]`; the combination (HL),(HL) is `HALT` (R74, R79). -/
def ld : Loc → Loc → Instr
  | .reg .b, .reg .b => .ldBB
  | .reg .b, .reg .c => .ldBC
  | .reg .b, .reg .d => .ldBD
  | .reg .b, .reg .e => .ldBE
  | .reg .b, .reg .h => .ldBH
  | .reg .b, .reg .l => .ldBL
  | .reg .b, .atHL => .ldBMemHL
  | .reg .b, .reg .a => .ldBA
  | .reg .c, .reg .b => .ldCB
  | .reg .c, .reg .c => .ldCC
  | .reg .c, .reg .d => .ldCD
  | .reg .c, .reg .e => .ldCE
  | .reg .c, .reg .h => .ldCH
  | .reg .c, .reg .l => .ldCL
  | .reg .c, .atHL => .ldCMemHL
  | .reg .c, .reg .a => .ldCA
  | .reg .d, .reg .b => .ldDB
  | .reg .d, .reg .c => .ldDC
  | .reg .d, .reg .d => .ldDD
  | .reg .d, .reg .e => .ldDE
  | .reg .d, .reg .h => .ldDH
  | .reg .d, .reg .l => .ldDL
  | .reg .d, .atHL => .ldDMemHL
  | .reg .d, .reg .a => .ldDA
  | .reg .e, .reg .b => .ldEB
  | .reg .e, .reg .c => .ldEC
  | .reg .e, .reg .d => .ldED
  | .reg .e, .reg .e => .ldEE
  | .reg .e, .reg .h => .ldEH
  | .reg .e, .reg .l => .ldEL
  | .reg .e, .atHL => .ldEMemHL
  | .reg .e, .reg .a => .ldEA
  | .reg .h, .reg .b => .ldHB
  | .reg .h, .reg .c => .ldHC
  | .reg .h, .reg .d => .ldHD
  | .reg .h, .reg .e => .ldHE
  | .reg .h, .reg .h => .ldHH
  | .reg .h, .reg .l => .ldHL
  | .reg .h, .atHL => .ldHMemHL
  | .reg .h, .reg .a => .ldHA
  | .reg .l, .reg .b => .ldLB
  | .reg .l, .reg .c => .ldLC
  | .reg .l, .reg .d => .ldLD
  | .reg .l, .reg .e => .ldLE
  | .reg .l, .reg .h => .ldLH
  | .reg .l, .reg .l => .ldLL
  | .reg .l, .atHL => .ldLMemHL
  | .reg .l, .reg .a => .ldLA
  | .atHL, .reg .b => .ldMemHLB
  | .atHL, .reg .c => .ldMemHLC
  | .atHL, .reg .d => .ldMemHLD
  | .atHL, .reg .e => .ldMemHLE
  | .atHL, .reg .h => .ldMemHLH
  | .atHL, .reg .l => .ldMemHLL
  | .atHL, .atHL => .halt
  | .atHL, .reg .a => .ldMemHLA
  | .reg .a, .reg .b => .ldAB
  | .reg .a, .reg .c => .ldAC
  | .reg .a, .reg .d => .ldAD
  | .reg .a, .reg .e => .ldAE
  | .reg .a, .reg .h => .ldAH
  | .reg .a, .reg .l => .ldAL
  | .reg .a, .atHL => .ldAMemHL
  | .reg .a, .reg .a => .ldAA

/-- `LD r8[y],n8` (R79). -/
def ldN8 (n : Byte) : Loc → Instr
  | .reg .b => .ldBN8 n
  | .reg .c => .ldCN8 n
  | .reg .d => .ldDN8 n
  | .reg .e => .ldEN8 n
  | .reg .h => .ldHN8 n
  | .reg .l => .ldLN8 n
  | .atHL => .ldMemHLN8 n
  | .reg .a => .ldAN8 n

/-- `LD A,r16mem[p]` (R75, R79). -/
def ldAFrom : R16Mem → Instr
  | .bc => .ldAMemBC
  | .de => .ldAMemDE
  | .hlInc => .ldAMemHLInc
  | .hlDec => .ldAMemHLDec

/-- `LD r16mem[p],A` (R75, R79). -/
def ldToA : R16Mem → Instr
  | .bc => .ldMemBCA
  | .de => .ldMemDEA
  | .hlInc => .ldMemHLIncA
  | .hlDec => .ldMemHLDecA

/-- `LD r16[p],n16` (R79). -/
def ldN16 (n : Word) : R16 → Instr
  | .bc => .ldBCN16 n
  | .de => .ldDEN16 n
  | .hl => .ldHLN16 n
  | .sp => .ldSPN16 n

/-- `PUSH r16stk[p]` (R79). -/
def push : R16Stk → Instr
  | .bc => .pushBC
  | .de => .pushDE
  | .hl => .pushHL
  | .af => .pushAF

/-- `POP r16stk[p]` (R79). -/
def pop : R16Stk → Instr
  | .bc => .popBC
  | .de => .popDE
  | .hl => .popHL
  | .af => .popAF

/-- `ADD HL,r16[p]` (R79). -/
def addHL : R16 → Instr
  | .bc => .addHLBC
  | .de => .addHLDE
  | .hl => .addHLHL
  | .sp => .addHLSP

/-- `INC r16[p]` (R79). -/
def inc16 : R16 → Instr
  | .bc => .incBC
  | .de => .incDE
  | .hl => .incHL
  | .sp => .incSP

/-- `DEC r16[p]` (R79). -/
def dec16 : R16 → Instr
  | .bc => .decBC
  | .de => .decDE
  | .hl => .decHL
  | .sp => .decSP

/-- `INC r8[y]` (R79). -/
def inc8 : Loc → Instr
  | .reg .b => .incB
  | .reg .c => .incC
  | .reg .d => .incD
  | .reg .e => .incE
  | .reg .h => .incH
  | .reg .l => .incL
  | .atHL => .incMemHL
  | .reg .a => .incA

/-- `DEC r8[y]` (R79). -/
def dec8 : Loc → Instr
  | .reg .b => .decB
  | .reg .c => .decC
  | .reg .d => .decD
  | .reg .e => .decE
  | .reg .h => .decH
  | .reg .l => .decL
  | .atHL => .decMemHL
  | .reg .a => .decA

/-- `alu[y] A,r8[z]` (R76, R79). -/
def alu : AluOp → Loc → Instr
  | .add, .reg .b => .addAB
  | .add, .reg .c => .addAC
  | .add, .reg .d => .addAD
  | .add, .reg .e => .addAE
  | .add, .reg .h => .addAH
  | .add, .reg .l => .addAL
  | .add, .atHL => .addAMemHL
  | .add, .reg .a => .addAA
  | .adc, .reg .b => .adcAB
  | .adc, .reg .c => .adcAC
  | .adc, .reg .d => .adcAD
  | .adc, .reg .e => .adcAE
  | .adc, .reg .h => .adcAH
  | .adc, .reg .l => .adcAL
  | .adc, .atHL => .adcAMemHL
  | .adc, .reg .a => .adcAA
  | .sub, .reg .b => .subAB
  | .sub, .reg .c => .subAC
  | .sub, .reg .d => .subAD
  | .sub, .reg .e => .subAE
  | .sub, .reg .h => .subAH
  | .sub, .reg .l => .subAL
  | .sub, .atHL => .subAMemHL
  | .sub, .reg .a => .subAA
  | .sbc, .reg .b => .sbcAB
  | .sbc, .reg .c => .sbcAC
  | .sbc, .reg .d => .sbcAD
  | .sbc, .reg .e => .sbcAE
  | .sbc, .reg .h => .sbcAH
  | .sbc, .reg .l => .sbcAL
  | .sbc, .atHL => .sbcAMemHL
  | .sbc, .reg .a => .sbcAA
  | .and, .reg .b => .andAB
  | .and, .reg .c => .andAC
  | .and, .reg .d => .andAD
  | .and, .reg .e => .andAE
  | .and, .reg .h => .andAH
  | .and, .reg .l => .andAL
  | .and, .atHL => .andAMemHL
  | .and, .reg .a => .andAA
  | .xor, .reg .b => .xorAB
  | .xor, .reg .c => .xorAC
  | .xor, .reg .d => .xorAD
  | .xor, .reg .e => .xorAE
  | .xor, .reg .h => .xorAH
  | .xor, .reg .l => .xorAL
  | .xor, .atHL => .xorAMemHL
  | .xor, .reg .a => .xorAA
  | .or, .reg .b => .orAB
  | .or, .reg .c => .orAC
  | .or, .reg .d => .orAD
  | .or, .reg .e => .orAE
  | .or, .reg .h => .orAH
  | .or, .reg .l => .orAL
  | .or, .atHL => .orAMemHL
  | .or, .reg .a => .orAA
  | .cp, .reg .b => .cpAB
  | .cp, .reg .c => .cpAC
  | .cp, .reg .d => .cpAD
  | .cp, .reg .e => .cpAE
  | .cp, .reg .h => .cpAH
  | .cp, .reg .l => .cpAL
  | .cp, .atHL => .cpAMemHL
  | .cp, .reg .a => .cpAA

/-- `alu[y] A,n8` (R76, R79). -/
def aluN8 (n : Byte) : AluOp → Instr
  | .add => .addAN8 n
  | .adc => .adcAN8 n
  | .sub => .subAN8 n
  | .sbc => .sbcAN8 n
  | .and => .andAN8 n
  | .xor => .xorAN8 n
  | .or => .orAN8 n
  | .cp => .cpAN8 n

/-- `JR cc,e8` (R79). -/
def jrCc (e : Byte) : Cond → Instr
  | .nz => .jrNZE8 e
  | .z => .jrZE8 e
  | .nc => .jrNCE8 e
  | .c => .jrCE8 e

/-- `JP cc,a16` (R79). -/
def jpCc (a : Word) : Cond → Instr
  | .nz => .jpNZA16 a
  | .z => .jpZA16 a
  | .nc => .jpNCA16 a
  | .c => .jpCA16 a

/-- `CALL cc,a16` (R79). -/
def callCc (a : Word) : Cond → Instr
  | .nz => .callNZA16 a
  | .z => .callZA16 a
  | .nc => .callNCA16 a
  | .c => .callCA16 a

/-- `RET cc` (R79). -/
def retCc : Cond → Instr
  | .nz => .retNZ
  | .z => .retZ
  | .nc => .retNC
  | .c => .retC

/-- `RST 8*t` (R73, R79). -/
def rst : Fin 8 → Instr
  | 0 => .rst00
  | 1 => .rst08
  | 2 => .rst10
  | 3 => .rst18
  | 4 => .rst20
  | 5 => .rst28
  | 6 => .rst30
  | 7 => .rst38

/-- `rot[y] r8[z]`, behind 0xCB (R76, R80). -/
def rot : RotOp → Loc → Instr
  | .rlc, .reg .b => .cbRlcB
  | .rlc, .reg .c => .cbRlcC
  | .rlc, .reg .d => .cbRlcD
  | .rlc, .reg .e => .cbRlcE
  | .rlc, .reg .h => .cbRlcH
  | .rlc, .reg .l => .cbRlcL
  | .rlc, .atHL => .cbRlcMemHL
  | .rlc, .reg .a => .cbRlcA
  | .rrc, .reg .b => .cbRrcB
  | .rrc, .reg .c => .cbRrcC
  | .rrc, .reg .d => .cbRrcD
  | .rrc, .reg .e => .cbRrcE
  | .rrc, .reg .h => .cbRrcH
  | .rrc, .reg .l => .cbRrcL
  | .rrc, .atHL => .cbRrcMemHL
  | .rrc, .reg .a => .cbRrcA
  | .rl, .reg .b => .cbRlB
  | .rl, .reg .c => .cbRlC
  | .rl, .reg .d => .cbRlD
  | .rl, .reg .e => .cbRlE
  | .rl, .reg .h => .cbRlH
  | .rl, .reg .l => .cbRlL
  | .rl, .atHL => .cbRlMemHL
  | .rl, .reg .a => .cbRlA
  | .rr, .reg .b => .cbRrB
  | .rr, .reg .c => .cbRrC
  | .rr, .reg .d => .cbRrD
  | .rr, .reg .e => .cbRrE
  | .rr, .reg .h => .cbRrH
  | .rr, .reg .l => .cbRrL
  | .rr, .atHL => .cbRrMemHL
  | .rr, .reg .a => .cbRrA
  | .sla, .reg .b => .cbSlaB
  | .sla, .reg .c => .cbSlaC
  | .sla, .reg .d => .cbSlaD
  | .sla, .reg .e => .cbSlaE
  | .sla, .reg .h => .cbSlaH
  | .sla, .reg .l => .cbSlaL
  | .sla, .atHL => .cbSlaMemHL
  | .sla, .reg .a => .cbSlaA
  | .sra, .reg .b => .cbSraB
  | .sra, .reg .c => .cbSraC
  | .sra, .reg .d => .cbSraD
  | .sra, .reg .e => .cbSraE
  | .sra, .reg .h => .cbSraH
  | .sra, .reg .l => .cbSraL
  | .sra, .atHL => .cbSraMemHL
  | .sra, .reg .a => .cbSraA
  | .swap, .reg .b => .cbSwapB
  | .swap, .reg .c => .cbSwapC
  | .swap, .reg .d => .cbSwapD
  | .swap, .reg .e => .cbSwapE
  | .swap, .reg .h => .cbSwapH
  | .swap, .reg .l => .cbSwapL
  | .swap, .atHL => .cbSwapMemHL
  | .swap, .reg .a => .cbSwapA
  | .srl, .reg .b => .cbSrlB
  | .srl, .reg .c => .cbSrlC
  | .srl, .reg .d => .cbSrlD
  | .srl, .reg .e => .cbSrlE
  | .srl, .reg .h => .cbSrlH
  | .srl, .reg .l => .cbSrlL
  | .srl, .atHL => .cbSrlMemHL
  | .srl, .reg .a => .cbSrlA

/-- `BIT b,r8[z]`, behind 0xCB (R76, R80). -/
def bit : Fin 8 → Loc → Instr
  | 0, .reg .b => .bit0B
  | 0, .reg .c => .bit0C
  | 0, .reg .d => .bit0D
  | 0, .reg .e => .bit0E
  | 0, .reg .h => .bit0H
  | 0, .reg .l => .bit0L
  | 0, .atHL => .bit0MemHL
  | 0, .reg .a => .bit0A
  | 1, .reg .b => .bit1B
  | 1, .reg .c => .bit1C
  | 1, .reg .d => .bit1D
  | 1, .reg .e => .bit1E
  | 1, .reg .h => .bit1H
  | 1, .reg .l => .bit1L
  | 1, .atHL => .bit1MemHL
  | 1, .reg .a => .bit1A
  | 2, .reg .b => .bit2B
  | 2, .reg .c => .bit2C
  | 2, .reg .d => .bit2D
  | 2, .reg .e => .bit2E
  | 2, .reg .h => .bit2H
  | 2, .reg .l => .bit2L
  | 2, .atHL => .bit2MemHL
  | 2, .reg .a => .bit2A
  | 3, .reg .b => .bit3B
  | 3, .reg .c => .bit3C
  | 3, .reg .d => .bit3D
  | 3, .reg .e => .bit3E
  | 3, .reg .h => .bit3H
  | 3, .reg .l => .bit3L
  | 3, .atHL => .bit3MemHL
  | 3, .reg .a => .bit3A
  | 4, .reg .b => .bit4B
  | 4, .reg .c => .bit4C
  | 4, .reg .d => .bit4D
  | 4, .reg .e => .bit4E
  | 4, .reg .h => .bit4H
  | 4, .reg .l => .bit4L
  | 4, .atHL => .bit4MemHL
  | 4, .reg .a => .bit4A
  | 5, .reg .b => .bit5B
  | 5, .reg .c => .bit5C
  | 5, .reg .d => .bit5D
  | 5, .reg .e => .bit5E
  | 5, .reg .h => .bit5H
  | 5, .reg .l => .bit5L
  | 5, .atHL => .bit5MemHL
  | 5, .reg .a => .bit5A
  | 6, .reg .b => .bit6B
  | 6, .reg .c => .bit6C
  | 6, .reg .d => .bit6D
  | 6, .reg .e => .bit6E
  | 6, .reg .h => .bit6H
  | 6, .reg .l => .bit6L
  | 6, .atHL => .bit6MemHL
  | 6, .reg .a => .bit6A
  | 7, .reg .b => .bit7B
  | 7, .reg .c => .bit7C
  | 7, .reg .d => .bit7D
  | 7, .reg .e => .bit7E
  | 7, .reg .h => .bit7H
  | 7, .reg .l => .bit7L
  | 7, .atHL => .bit7MemHL
  | 7, .reg .a => .bit7A

/-- `RES b,r8[z]`, behind 0xCB (R76, R80). -/
def res : Fin 8 → Loc → Instr
  | 0, .reg .b => .res0B
  | 0, .reg .c => .res0C
  | 0, .reg .d => .res0D
  | 0, .reg .e => .res0E
  | 0, .reg .h => .res0H
  | 0, .reg .l => .res0L
  | 0, .atHL => .res0MemHL
  | 0, .reg .a => .res0A
  | 1, .reg .b => .res1B
  | 1, .reg .c => .res1C
  | 1, .reg .d => .res1D
  | 1, .reg .e => .res1E
  | 1, .reg .h => .res1H
  | 1, .reg .l => .res1L
  | 1, .atHL => .res1MemHL
  | 1, .reg .a => .res1A
  | 2, .reg .b => .res2B
  | 2, .reg .c => .res2C
  | 2, .reg .d => .res2D
  | 2, .reg .e => .res2E
  | 2, .reg .h => .res2H
  | 2, .reg .l => .res2L
  | 2, .atHL => .res2MemHL
  | 2, .reg .a => .res2A
  | 3, .reg .b => .res3B
  | 3, .reg .c => .res3C
  | 3, .reg .d => .res3D
  | 3, .reg .e => .res3E
  | 3, .reg .h => .res3H
  | 3, .reg .l => .res3L
  | 3, .atHL => .res3MemHL
  | 3, .reg .a => .res3A
  | 4, .reg .b => .res4B
  | 4, .reg .c => .res4C
  | 4, .reg .d => .res4D
  | 4, .reg .e => .res4E
  | 4, .reg .h => .res4H
  | 4, .reg .l => .res4L
  | 4, .atHL => .res4MemHL
  | 4, .reg .a => .res4A
  | 5, .reg .b => .res5B
  | 5, .reg .c => .res5C
  | 5, .reg .d => .res5D
  | 5, .reg .e => .res5E
  | 5, .reg .h => .res5H
  | 5, .reg .l => .res5L
  | 5, .atHL => .res5MemHL
  | 5, .reg .a => .res5A
  | 6, .reg .b => .res6B
  | 6, .reg .c => .res6C
  | 6, .reg .d => .res6D
  | 6, .reg .e => .res6E
  | 6, .reg .h => .res6H
  | 6, .reg .l => .res6L
  | 6, .atHL => .res6MemHL
  | 6, .reg .a => .res6A
  | 7, .reg .b => .res7B
  | 7, .reg .c => .res7C
  | 7, .reg .d => .res7D
  | 7, .reg .e => .res7E
  | 7, .reg .h => .res7H
  | 7, .reg .l => .res7L
  | 7, .atHL => .res7MemHL
  | 7, .reg .a => .res7A

/-- `SET b,r8[z]`, behind 0xCB (R76, R80). -/
def set : Fin 8 → Loc → Instr
  | 0, .reg .b => .set0B
  | 0, .reg .c => .set0C
  | 0, .reg .d => .set0D
  | 0, .reg .e => .set0E
  | 0, .reg .h => .set0H
  | 0, .reg .l => .set0L
  | 0, .atHL => .set0MemHL
  | 0, .reg .a => .set0A
  | 1, .reg .b => .set1B
  | 1, .reg .c => .set1C
  | 1, .reg .d => .set1D
  | 1, .reg .e => .set1E
  | 1, .reg .h => .set1H
  | 1, .reg .l => .set1L
  | 1, .atHL => .set1MemHL
  | 1, .reg .a => .set1A
  | 2, .reg .b => .set2B
  | 2, .reg .c => .set2C
  | 2, .reg .d => .set2D
  | 2, .reg .e => .set2E
  | 2, .reg .h => .set2H
  | 2, .reg .l => .set2L
  | 2, .atHL => .set2MemHL
  | 2, .reg .a => .set2A
  | 3, .reg .b => .set3B
  | 3, .reg .c => .set3C
  | 3, .reg .d => .set3D
  | 3, .reg .e => .set3E
  | 3, .reg .h => .set3H
  | 3, .reg .l => .set3L
  | 3, .atHL => .set3MemHL
  | 3, .reg .a => .set3A
  | 4, .reg .b => .set4B
  | 4, .reg .c => .set4C
  | 4, .reg .d => .set4D
  | 4, .reg .e => .set4E
  | 4, .reg .h => .set4H
  | 4, .reg .l => .set4L
  | 4, .atHL => .set4MemHL
  | 4, .reg .a => .set4A
  | 5, .reg .b => .set5B
  | 5, .reg .c => .set5C
  | 5, .reg .d => .set5D
  | 5, .reg .e => .set5E
  | 5, .reg .h => .set5H
  | 5, .reg .l => .set5L
  | 5, .atHL => .set5MemHL
  | 5, .reg .a => .set5A
  | 6, .reg .b => .set6B
  | 6, .reg .c => .set6C
  | 6, .reg .d => .set6D
  | 6, .reg .e => .set6E
  | 6, .reg .h => .set6H
  | 6, .reg .l => .set6L
  | 6, .atHL => .set6MemHL
  | 6, .reg .a => .set6A
  | 7, .reg .b => .set7B
  | 7, .reg .c => .set7C
  | 7, .reg .d => .set7D
  | 7, .reg .e => .set7E
  | 7, .reg .h => .set7H
  | 7, .reg .l => .set7L
  | 7, .atHL => .set7MemHL
  | 7, .reg .a => .set7A

end Sel

/-- The length of an instruction in bytes, "a function of byte 0 alone" (R70, R79). -/
def formatLength (b0 : Byte) : Nat :=
  let x := b0.toNat / 64
  let y := b0.toNat / 8 % 8
  let z := b0.toNat % 8
  match x, z with
  | 0, 0 => if y = 0 then 1 else if y = 1 then 3 else 2
  | 0, 1 => if y % 2 = 0 then 3 else 1
  | 0, 6 => 2
  | 3, 0 => if y < 4 then 1 else 2
  | 3, 2 => if y < 4 || y = 5 || y = 7 then 3 else 1
  | 3, 3 => if y = 0 then 3 else if y = 1 then 2 else 1
  | 3, 4 => if y < 4 then 3 else 1
  | 3, 5 => if y = 1 then 3 else 1
  | 3, 6 => 2
  | _, _ => 1

/-- Bytes 0x00 to 0x3F of the primary table, by fields (R79, `x = 0`; R76 (d)). -/
def decodeX0 (y z : Nat) (n8 : Byte) (n16 : Word) : Instr :=
  let p := y / 2
  let q := y % 2
  match z with
  | 0 =>
    match y with
    | 0 => .nop
    | 1 => .ldMemA16SP n16
    | 2 => .stop n8
    | 3 => .jrE8 n8
    | _ => Sel.jrCc n8 (Cond.ofCode (y - 4))
  | 1 => if q = 0 then Sel.ldN16 n16 (R16.ofCode p) else Sel.addHL (R16.ofCode p)
  | 2 => if q = 0 then Sel.ldToA (R16Mem.ofCode p) else Sel.ldAFrom (R16Mem.ofCode p)
  | 3 => if q = 0 then Sel.inc16 (R16.ofCode p) else Sel.dec16 (R16.ofCode p)
  | 4 => Sel.inc8 (Loc.ofCode y)
  | 5 => Sel.dec8 (Loc.ofCode y)
  | 6 => Sel.ldN8 n8 (Loc.ofCode y)
  | _ =>
    match y with
    | 0 => .rlca
    | 1 => .rrca
    | 2 => .rla
    | 3 => .rra
    | 4 => .daa
    | 5 => .cpl
    | 6 => .scf
    | _ => .ccf

/-- Bytes 0xC0 to 0xFF of the primary table, by fields (R79, `x = 3`; R81). The prefix byte 0xCB does not reach it
(`decodeBytes`). -/
def decodeX3 (y z : Nat) (n8 : Byte) (n16 : Word) : Instr :=
  let p := y / 2
  let q := y % 2
  match z with
  | 0 =>
    match y with
    | 4 => .ldhMemA8A n8
    | 5 => .addSPE8 n8
    | 6 => .ldhAMemA8 n8
    | 7 => .ldHLSPE8 n8
    | _ => Sel.retCc (Cond.ofCode y)
  | 1 =>
    if q = 0 then Sel.pop (R16Stk.ofCode p)
    else
      match p with
      | 0 => .ret
      | 1 => .reti
      | 2 => .jpHL
      | _ => .ldSPHL
  | 2 =>
    match y with
    | 4 => .ldhMemCA
    | 5 => .ldMemA16A n16
    | 6 => .ldhAMemC
    | 7 => .ldAMemA16 n16
    | _ => Sel.jpCc n16 (Cond.ofCode y)
  | 3 =>
    match y with
    | 2 => .illegalD3
    | 3 => .illegalDB
    | 4 => .illegalE3
    | 5 => .illegalEB
    | 6 => .di
    | 7 => .ei
    | _ => .jpA16 n16
  | 4 =>
    match y with
    | 4 => .illegalE4
    | 5 => .illegalEC
    | 6 => .illegalF4
    | 7 => .illegalFC
    | _ => Sel.callCc n16 (Cond.ofCode y)
  | 5 =>
    if q = 0 then Sel.push (R16Stk.ofCode p)
    else
      match p with
      | 0 => .callA16 n16
      | 1 => .illegalDD
      | 2 => .illegalED
      | _ => .illegalFD
  | 6 => Sel.aluN8 n8 (AluOp.ofCode y)
  | _ => Sel.rst (Fin.ofNat 8 y)

/-- The primary table, byte 0 (R79). -/
def decodePrimary (b0 n8 : Byte) (n16 : Word) : Instr :=
  let y := b0.toNat / 8 % 8
  let z := b0.toNat % 8
  match b0.toNat / 64 with
  | 0 => decodeX0 y z n8 n16
  | 1 => Sel.ld (Loc.ofCode y) (Loc.ofCode z)
  | 2 => Sel.alu (AluOp.ofCode y) (Loc.ofCode z)
  | _ => decodeX3 y z n8 n16

/-- The CB table, byte 1 after the prefix (R80). -/
def decodeCB (b1 : Byte) : Instr :=
  let y := b1.toNat / 8 % 8
  let l := Loc.ofCode (b1.toNat % 8)
  match b1.toNat / 64 with
  | 0 => Sel.rot (RotOp.ofCode y) l
  | 1 => Sel.bit (Fin.ofNat 8 y) l
  | 2 => Sel.res (Fin.ofNat 8 y) l
  | _ => Sel.set (Fin.ofNat 8 y) l

/-- The instruction whose first bytes are these; the bytes past its length have no say (R71 item 5, R78). -/
def decodeBytes (b0 b1 b2 : Byte) : Instr :=
  if b0 = 0xCB#8 then decodeCB b1 else decodePrimary b0 b1 (pair16 b2 b1)

/-- Why a list of bytes holds no instruction. -/
inductive DecodeError where
  /-- There is no byte 0. -/
  | noBytes
  /-- The instruction that byte 0 begins needs more bytes than there are. -/
  | truncated (b0 : Byte)
  deriving DecidableEq, Repr

/-- Decoding, total on any bytes: the instruction at the front and the bytes after it, or why there is none. Every
value of byte 0 decodes when its operand bytes are there: an illegal byte decodes to its own row (R81, R90). -/
def decode : List Byte → Except DecodeError (Instr × List Byte)
  | [] => .error .noBytes
  | b0 :: rest =>
    let n := formatLength b0 - 1
    if rest.length < n then .error (.truncated b0)
    else .ok (decodeBytes b0 (rest.getD 0 0#8) (rest.getD 1 0#8), rest.drop n)

/-- The three bytes of a table word in ascending address order, missing operand bytes zero. Bit 0 is the least
significant bit of the first byte; but the table numbers its 16-bit rows, all behind the prefix, with byte 0
most significant (R90: "a CB row a 16-bit match 0xCBnn"), so a 16-bit word of that form is laid out so
(notes/assumptions/5.md). -/
def tableBytes (nbits w : Nat) : Byte × Byte × Byte :=
  if nbits = 16 ∧ w / 256 % 256 = 0xCB then (0xCB#8, BitVec.ofNat 8 w, 0#8)
  else
    (BitVec.ofNat 8 w,
     if nbits ≤ 8 then 0#8 else BitVec.ofNat 8 (w / 256),
     if nbits ≤ 16 then 0#8 else BitVec.ofNat 8 (w / 65536))

/-- The instruction the decoder reads from a table word. -/
def decodeTableWord (nbits w : Nat) : Option Instr :=
  let t := tableBytes nbits w
  match decode [t.1, t.2.1, t.2.2] with
  | .ok (i, _) => some i
  | .error _ => none

/-- The encoding: the bytes of an instruction in ascending address order, row by row from the two maps of R79 and R80
and the formats of R70. -/
def encode (i : Instr) : List Byte :=
  match i with
  | .nop => [0x00#8]
  | .ldBCN16 n => [0x01#8, lo8 n, hi8 n]
  | .ldMemBCA => [0x02#8]
  | .incBC => [0x03#8]
  | .incB => [0x04#8]
  | .decB => [0x05#8]
  | .ldBN8 n => [0x06#8, n]
  | .rlca => [0x07#8]
  | .ldMemA16SP a => [0x08#8, lo8 a, hi8 a]
  | .addHLBC => [0x09#8]
  | .ldAMemBC => [0x0A#8]
  | .decBC => [0x0B#8]
  | .incC => [0x0C#8]
  | .decC => [0x0D#8]
  | .ldCN8 n => [0x0E#8, n]
  | .rrca => [0x0F#8]
  | .stop n => [0x10#8, n]
  | .ldDEN16 n => [0x11#8, lo8 n, hi8 n]
  | .ldMemDEA => [0x12#8]
  | .incDE => [0x13#8]
  | .incD => [0x14#8]
  | .decD => [0x15#8]
  | .ldDN8 n => [0x16#8, n]
  | .rla => [0x17#8]
  | .jrE8 e => [0x18#8, e]
  | .addHLDE => [0x19#8]
  | .ldAMemDE => [0x1A#8]
  | .decDE => [0x1B#8]
  | .incE => [0x1C#8]
  | .decE => [0x1D#8]
  | .ldEN8 n => [0x1E#8, n]
  | .rra => [0x1F#8]
  | .jrNZE8 e => [0x20#8, e]
  | .ldHLN16 n => [0x21#8, lo8 n, hi8 n]
  | .ldMemHLIncA => [0x22#8]
  | .incHL => [0x23#8]
  | .incH => [0x24#8]
  | .decH => [0x25#8]
  | .ldHN8 n => [0x26#8, n]
  | .daa => [0x27#8]
  | .jrZE8 e => [0x28#8, e]
  | .addHLHL => [0x29#8]
  | .ldAMemHLInc => [0x2A#8]
  | .decHL => [0x2B#8]
  | .incL => [0x2C#8]
  | .decL => [0x2D#8]
  | .ldLN8 n => [0x2E#8, n]
  | .cpl => [0x2F#8]
  | .jrNCE8 e => [0x30#8, e]
  | .ldSPN16 n => [0x31#8, lo8 n, hi8 n]
  | .ldMemHLDecA => [0x32#8]
  | .incSP => [0x33#8]
  | .incMemHL => [0x34#8]
  | .decMemHL => [0x35#8]
  | .ldMemHLN8 n => [0x36#8, n]
  | .scf => [0x37#8]
  | .jrCE8 e => [0x38#8, e]
  | .addHLSP => [0x39#8]
  | .ldAMemHLDec => [0x3A#8]
  | .decSP => [0x3B#8]
  | .incA => [0x3C#8]
  | .decA => [0x3D#8]
  | .ldAN8 n => [0x3E#8, n]
  | .ccf => [0x3F#8]
  | .ldBB => [0x40#8]
  | .ldBC => [0x41#8]
  | .ldBD => [0x42#8]
  | .ldBE => [0x43#8]
  | .ldBH => [0x44#8]
  | .ldBL => [0x45#8]
  | .ldBMemHL => [0x46#8]
  | .ldBA => [0x47#8]
  | .ldCB => [0x48#8]
  | .ldCC => [0x49#8]
  | .ldCD => [0x4A#8]
  | .ldCE => [0x4B#8]
  | .ldCH => [0x4C#8]
  | .ldCL => [0x4D#8]
  | .ldCMemHL => [0x4E#8]
  | .ldCA => [0x4F#8]
  | .ldDB => [0x50#8]
  | .ldDC => [0x51#8]
  | .ldDD => [0x52#8]
  | .ldDE => [0x53#8]
  | .ldDH => [0x54#8]
  | .ldDL => [0x55#8]
  | .ldDMemHL => [0x56#8]
  | .ldDA => [0x57#8]
  | .ldEB => [0x58#8]
  | .ldEC => [0x59#8]
  | .ldED => [0x5A#8]
  | .ldEE => [0x5B#8]
  | .ldEH => [0x5C#8]
  | .ldEL => [0x5D#8]
  | .ldEMemHL => [0x5E#8]
  | .ldEA => [0x5F#8]
  | .ldHB => [0x60#8]
  | .ldHC => [0x61#8]
  | .ldHD => [0x62#8]
  | .ldHE => [0x63#8]
  | .ldHH => [0x64#8]
  | .ldHL => [0x65#8]
  | .ldHMemHL => [0x66#8]
  | .ldHA => [0x67#8]
  | .ldLB => [0x68#8]
  | .ldLC => [0x69#8]
  | .ldLD => [0x6A#8]
  | .ldLE => [0x6B#8]
  | .ldLH => [0x6C#8]
  | .ldLL => [0x6D#8]
  | .ldLMemHL => [0x6E#8]
  | .ldLA => [0x6F#8]
  | .ldMemHLB => [0x70#8]
  | .ldMemHLC => [0x71#8]
  | .ldMemHLD => [0x72#8]
  | .ldMemHLE => [0x73#8]
  | .ldMemHLH => [0x74#8]
  | .ldMemHLL => [0x75#8]
  | .halt => [0x76#8]
  | .ldMemHLA => [0x77#8]
  | .ldAB => [0x78#8]
  | .ldAC => [0x79#8]
  | .ldAD => [0x7A#8]
  | .ldAE => [0x7B#8]
  | .ldAH => [0x7C#8]
  | .ldAL => [0x7D#8]
  | .ldAMemHL => [0x7E#8]
  | .ldAA => [0x7F#8]
  | .addAB => [0x80#8]
  | .addAC => [0x81#8]
  | .addAD => [0x82#8]
  | .addAE => [0x83#8]
  | .addAH => [0x84#8]
  | .addAL => [0x85#8]
  | .addAMemHL => [0x86#8]
  | .addAA => [0x87#8]
  | .adcAB => [0x88#8]
  | .adcAC => [0x89#8]
  | .adcAD => [0x8A#8]
  | .adcAE => [0x8B#8]
  | .adcAH => [0x8C#8]
  | .adcAL => [0x8D#8]
  | .adcAMemHL => [0x8E#8]
  | .adcAA => [0x8F#8]
  | .subAB => [0x90#8]
  | .subAC => [0x91#8]
  | .subAD => [0x92#8]
  | .subAE => [0x93#8]
  | .subAH => [0x94#8]
  | .subAL => [0x95#8]
  | .subAMemHL => [0x96#8]
  | .subAA => [0x97#8]
  | .sbcAB => [0x98#8]
  | .sbcAC => [0x99#8]
  | .sbcAD => [0x9A#8]
  | .sbcAE => [0x9B#8]
  | .sbcAH => [0x9C#8]
  | .sbcAL => [0x9D#8]
  | .sbcAMemHL => [0x9E#8]
  | .sbcAA => [0x9F#8]
  | .andAB => [0xA0#8]
  | .andAC => [0xA1#8]
  | .andAD => [0xA2#8]
  | .andAE => [0xA3#8]
  | .andAH => [0xA4#8]
  | .andAL => [0xA5#8]
  | .andAMemHL => [0xA6#8]
  | .andAA => [0xA7#8]
  | .xorAB => [0xA8#8]
  | .xorAC => [0xA9#8]
  | .xorAD => [0xAA#8]
  | .xorAE => [0xAB#8]
  | .xorAH => [0xAC#8]
  | .xorAL => [0xAD#8]
  | .xorAMemHL => [0xAE#8]
  | .xorAA => [0xAF#8]
  | .orAB => [0xB0#8]
  | .orAC => [0xB1#8]
  | .orAD => [0xB2#8]
  | .orAE => [0xB3#8]
  | .orAH => [0xB4#8]
  | .orAL => [0xB5#8]
  | .orAMemHL => [0xB6#8]
  | .orAA => [0xB7#8]
  | .cpAB => [0xB8#8]
  | .cpAC => [0xB9#8]
  | .cpAD => [0xBA#8]
  | .cpAE => [0xBB#8]
  | .cpAH => [0xBC#8]
  | .cpAL => [0xBD#8]
  | .cpAMemHL => [0xBE#8]
  | .cpAA => [0xBF#8]
  | .retNZ => [0xC0#8]
  | .popBC => [0xC1#8]
  | .jpNZA16 a => [0xC2#8, lo8 a, hi8 a]
  | .jpA16 a => [0xC3#8, lo8 a, hi8 a]
  | .callNZA16 a => [0xC4#8, lo8 a, hi8 a]
  | .pushBC => [0xC5#8]
  | .addAN8 n => [0xC6#8, n]
  | .rst00 => [0xC7#8]
  | .retZ => [0xC8#8]
  | .ret => [0xC9#8]
  | .jpZA16 a => [0xCA#8, lo8 a, hi8 a]
  | .callZA16 a => [0xCC#8, lo8 a, hi8 a]
  | .callA16 a => [0xCD#8, lo8 a, hi8 a]
  | .adcAN8 n => [0xCE#8, n]
  | .rst08 => [0xCF#8]
  | .retNC => [0xD0#8]
  | .popDE => [0xD1#8]
  | .jpNCA16 a => [0xD2#8, lo8 a, hi8 a]
  | .illegalD3 => [0xD3#8]
  | .callNCA16 a => [0xD4#8, lo8 a, hi8 a]
  | .pushDE => [0xD5#8]
  | .subAN8 n => [0xD6#8, n]
  | .rst10 => [0xD7#8]
  | .retC => [0xD8#8]
  | .reti => [0xD9#8]
  | .jpCA16 a => [0xDA#8, lo8 a, hi8 a]
  | .illegalDB => [0xDB#8]
  | .callCA16 a => [0xDC#8, lo8 a, hi8 a]
  | .illegalDD => [0xDD#8]
  | .sbcAN8 n => [0xDE#8, n]
  | .rst18 => [0xDF#8]
  | .ldhMemA8A a => [0xE0#8, a]
  | .popHL => [0xE1#8]
  | .ldhMemCA => [0xE2#8]
  | .illegalE3 => [0xE3#8]
  | .illegalE4 => [0xE4#8]
  | .pushHL => [0xE5#8]
  | .andAN8 n => [0xE6#8, n]
  | .rst20 => [0xE7#8]
  | .addSPE8 e => [0xE8#8, e]
  | .jpHL => [0xE9#8]
  | .ldMemA16A a => [0xEA#8, lo8 a, hi8 a]
  | .illegalEB => [0xEB#8]
  | .illegalEC => [0xEC#8]
  | .illegalED => [0xED#8]
  | .xorAN8 n => [0xEE#8, n]
  | .rst28 => [0xEF#8]
  | .ldhAMemA8 a => [0xF0#8, a]
  | .popAF => [0xF1#8]
  | .ldhAMemC => [0xF2#8]
  | .di => [0xF3#8]
  | .illegalF4 => [0xF4#8]
  | .pushAF => [0xF5#8]
  | .orAN8 n => [0xF6#8, n]
  | .rst30 => [0xF7#8]
  | .ldHLSPE8 e => [0xF8#8, e]
  | .ldSPHL => [0xF9#8]
  | .ldAMemA16 a => [0xFA#8, lo8 a, hi8 a]
  | .ei => [0xFB#8]
  | .illegalFC => [0xFC#8]
  | .illegalFD => [0xFD#8]
  | .cpAN8 n => [0xFE#8, n]
  | .rst38 => [0xFF#8]
  | .cbRlcB => [0xCB#8, 0x00#8]
  | .cbRlcC => [0xCB#8, 0x01#8]
  | .cbRlcD => [0xCB#8, 0x02#8]
  | .cbRlcE => [0xCB#8, 0x03#8]
  | .cbRlcH => [0xCB#8, 0x04#8]
  | .cbRlcL => [0xCB#8, 0x05#8]
  | .cbRlcMemHL => [0xCB#8, 0x06#8]
  | .cbRlcA => [0xCB#8, 0x07#8]
  | .cbRrcB => [0xCB#8, 0x08#8]
  | .cbRrcC => [0xCB#8, 0x09#8]
  | .cbRrcD => [0xCB#8, 0x0A#8]
  | .cbRrcE => [0xCB#8, 0x0B#8]
  | .cbRrcH => [0xCB#8, 0x0C#8]
  | .cbRrcL => [0xCB#8, 0x0D#8]
  | .cbRrcMemHL => [0xCB#8, 0x0E#8]
  | .cbRrcA => [0xCB#8, 0x0F#8]
  | .cbRlB => [0xCB#8, 0x10#8]
  | .cbRlC => [0xCB#8, 0x11#8]
  | .cbRlD => [0xCB#8, 0x12#8]
  | .cbRlE => [0xCB#8, 0x13#8]
  | .cbRlH => [0xCB#8, 0x14#8]
  | .cbRlL => [0xCB#8, 0x15#8]
  | .cbRlMemHL => [0xCB#8, 0x16#8]
  | .cbRlA => [0xCB#8, 0x17#8]
  | .cbRrB => [0xCB#8, 0x18#8]
  | .cbRrC => [0xCB#8, 0x19#8]
  | .cbRrD => [0xCB#8, 0x1A#8]
  | .cbRrE => [0xCB#8, 0x1B#8]
  | .cbRrH => [0xCB#8, 0x1C#8]
  | .cbRrL => [0xCB#8, 0x1D#8]
  | .cbRrMemHL => [0xCB#8, 0x1E#8]
  | .cbRrA => [0xCB#8, 0x1F#8]
  | .cbSlaB => [0xCB#8, 0x20#8]
  | .cbSlaC => [0xCB#8, 0x21#8]
  | .cbSlaD => [0xCB#8, 0x22#8]
  | .cbSlaE => [0xCB#8, 0x23#8]
  | .cbSlaH => [0xCB#8, 0x24#8]
  | .cbSlaL => [0xCB#8, 0x25#8]
  | .cbSlaMemHL => [0xCB#8, 0x26#8]
  | .cbSlaA => [0xCB#8, 0x27#8]
  | .cbSraB => [0xCB#8, 0x28#8]
  | .cbSraC => [0xCB#8, 0x29#8]
  | .cbSraD => [0xCB#8, 0x2A#8]
  | .cbSraE => [0xCB#8, 0x2B#8]
  | .cbSraH => [0xCB#8, 0x2C#8]
  | .cbSraL => [0xCB#8, 0x2D#8]
  | .cbSraMemHL => [0xCB#8, 0x2E#8]
  | .cbSraA => [0xCB#8, 0x2F#8]
  | .cbSwapB => [0xCB#8, 0x30#8]
  | .cbSwapC => [0xCB#8, 0x31#8]
  | .cbSwapD => [0xCB#8, 0x32#8]
  | .cbSwapE => [0xCB#8, 0x33#8]
  | .cbSwapH => [0xCB#8, 0x34#8]
  | .cbSwapL => [0xCB#8, 0x35#8]
  | .cbSwapMemHL => [0xCB#8, 0x36#8]
  | .cbSwapA => [0xCB#8, 0x37#8]
  | .cbSrlB => [0xCB#8, 0x38#8]
  | .cbSrlC => [0xCB#8, 0x39#8]
  | .cbSrlD => [0xCB#8, 0x3A#8]
  | .cbSrlE => [0xCB#8, 0x3B#8]
  | .cbSrlH => [0xCB#8, 0x3C#8]
  | .cbSrlL => [0xCB#8, 0x3D#8]
  | .cbSrlMemHL => [0xCB#8, 0x3E#8]
  | .cbSrlA => [0xCB#8, 0x3F#8]
  | .bit0B => [0xCB#8, 0x40#8]
  | .bit0C => [0xCB#8, 0x41#8]
  | .bit0D => [0xCB#8, 0x42#8]
  | .bit0E => [0xCB#8, 0x43#8]
  | .bit0H => [0xCB#8, 0x44#8]
  | .bit0L => [0xCB#8, 0x45#8]
  | .bit0MemHL => [0xCB#8, 0x46#8]
  | .bit0A => [0xCB#8, 0x47#8]
  | .bit1B => [0xCB#8, 0x48#8]
  | .bit1C => [0xCB#8, 0x49#8]
  | .bit1D => [0xCB#8, 0x4A#8]
  | .bit1E => [0xCB#8, 0x4B#8]
  | .bit1H => [0xCB#8, 0x4C#8]
  | .bit1L => [0xCB#8, 0x4D#8]
  | .bit1MemHL => [0xCB#8, 0x4E#8]
  | .bit1A => [0xCB#8, 0x4F#8]
  | .bit2B => [0xCB#8, 0x50#8]
  | .bit2C => [0xCB#8, 0x51#8]
  | .bit2D => [0xCB#8, 0x52#8]
  | .bit2E => [0xCB#8, 0x53#8]
  | .bit2H => [0xCB#8, 0x54#8]
  | .bit2L => [0xCB#8, 0x55#8]
  | .bit2MemHL => [0xCB#8, 0x56#8]
  | .bit2A => [0xCB#8, 0x57#8]
  | .bit3B => [0xCB#8, 0x58#8]
  | .bit3C => [0xCB#8, 0x59#8]
  | .bit3D => [0xCB#8, 0x5A#8]
  | .bit3E => [0xCB#8, 0x5B#8]
  | .bit3H => [0xCB#8, 0x5C#8]
  | .bit3L => [0xCB#8, 0x5D#8]
  | .bit3MemHL => [0xCB#8, 0x5E#8]
  | .bit3A => [0xCB#8, 0x5F#8]
  | .bit4B => [0xCB#8, 0x60#8]
  | .bit4C => [0xCB#8, 0x61#8]
  | .bit4D => [0xCB#8, 0x62#8]
  | .bit4E => [0xCB#8, 0x63#8]
  | .bit4H => [0xCB#8, 0x64#8]
  | .bit4L => [0xCB#8, 0x65#8]
  | .bit4MemHL => [0xCB#8, 0x66#8]
  | .bit4A => [0xCB#8, 0x67#8]
  | .bit5B => [0xCB#8, 0x68#8]
  | .bit5C => [0xCB#8, 0x69#8]
  | .bit5D => [0xCB#8, 0x6A#8]
  | .bit5E => [0xCB#8, 0x6B#8]
  | .bit5H => [0xCB#8, 0x6C#8]
  | .bit5L => [0xCB#8, 0x6D#8]
  | .bit5MemHL => [0xCB#8, 0x6E#8]
  | .bit5A => [0xCB#8, 0x6F#8]
  | .bit6B => [0xCB#8, 0x70#8]
  | .bit6C => [0xCB#8, 0x71#8]
  | .bit6D => [0xCB#8, 0x72#8]
  | .bit6E => [0xCB#8, 0x73#8]
  | .bit6H => [0xCB#8, 0x74#8]
  | .bit6L => [0xCB#8, 0x75#8]
  | .bit6MemHL => [0xCB#8, 0x76#8]
  | .bit6A => [0xCB#8, 0x77#8]
  | .bit7B => [0xCB#8, 0x78#8]
  | .bit7C => [0xCB#8, 0x79#8]
  | .bit7D => [0xCB#8, 0x7A#8]
  | .bit7E => [0xCB#8, 0x7B#8]
  | .bit7H => [0xCB#8, 0x7C#8]
  | .bit7L => [0xCB#8, 0x7D#8]
  | .bit7MemHL => [0xCB#8, 0x7E#8]
  | .bit7A => [0xCB#8, 0x7F#8]
  | .res0B => [0xCB#8, 0x80#8]
  | .res0C => [0xCB#8, 0x81#8]
  | .res0D => [0xCB#8, 0x82#8]
  | .res0E => [0xCB#8, 0x83#8]
  | .res0H => [0xCB#8, 0x84#8]
  | .res0L => [0xCB#8, 0x85#8]
  | .res0MemHL => [0xCB#8, 0x86#8]
  | .res0A => [0xCB#8, 0x87#8]
  | .res1B => [0xCB#8, 0x88#8]
  | .res1C => [0xCB#8, 0x89#8]
  | .res1D => [0xCB#8, 0x8A#8]
  | .res1E => [0xCB#8, 0x8B#8]
  | .res1H => [0xCB#8, 0x8C#8]
  | .res1L => [0xCB#8, 0x8D#8]
  | .res1MemHL => [0xCB#8, 0x8E#8]
  | .res1A => [0xCB#8, 0x8F#8]
  | .res2B => [0xCB#8, 0x90#8]
  | .res2C => [0xCB#8, 0x91#8]
  | .res2D => [0xCB#8, 0x92#8]
  | .res2E => [0xCB#8, 0x93#8]
  | .res2H => [0xCB#8, 0x94#8]
  | .res2L => [0xCB#8, 0x95#8]
  | .res2MemHL => [0xCB#8, 0x96#8]
  | .res2A => [0xCB#8, 0x97#8]
  | .res3B => [0xCB#8, 0x98#8]
  | .res3C => [0xCB#8, 0x99#8]
  | .res3D => [0xCB#8, 0x9A#8]
  | .res3E => [0xCB#8, 0x9B#8]
  | .res3H => [0xCB#8, 0x9C#8]
  | .res3L => [0xCB#8, 0x9D#8]
  | .res3MemHL => [0xCB#8, 0x9E#8]
  | .res3A => [0xCB#8, 0x9F#8]
  | .res4B => [0xCB#8, 0xA0#8]
  | .res4C => [0xCB#8, 0xA1#8]
  | .res4D => [0xCB#8, 0xA2#8]
  | .res4E => [0xCB#8, 0xA3#8]
  | .res4H => [0xCB#8, 0xA4#8]
  | .res4L => [0xCB#8, 0xA5#8]
  | .res4MemHL => [0xCB#8, 0xA6#8]
  | .res4A => [0xCB#8, 0xA7#8]
  | .res5B => [0xCB#8, 0xA8#8]
  | .res5C => [0xCB#8, 0xA9#8]
  | .res5D => [0xCB#8, 0xAA#8]
  | .res5E => [0xCB#8, 0xAB#8]
  | .res5H => [0xCB#8, 0xAC#8]
  | .res5L => [0xCB#8, 0xAD#8]
  | .res5MemHL => [0xCB#8, 0xAE#8]
  | .res5A => [0xCB#8, 0xAF#8]
  | .res6B => [0xCB#8, 0xB0#8]
  | .res6C => [0xCB#8, 0xB1#8]
  | .res6D => [0xCB#8, 0xB2#8]
  | .res6E => [0xCB#8, 0xB3#8]
  | .res6H => [0xCB#8, 0xB4#8]
  | .res6L => [0xCB#8, 0xB5#8]
  | .res6MemHL => [0xCB#8, 0xB6#8]
  | .res6A => [0xCB#8, 0xB7#8]
  | .res7B => [0xCB#8, 0xB8#8]
  | .res7C => [0xCB#8, 0xB9#8]
  | .res7D => [0xCB#8, 0xBA#8]
  | .res7E => [0xCB#8, 0xBB#8]
  | .res7H => [0xCB#8, 0xBC#8]
  | .res7L => [0xCB#8, 0xBD#8]
  | .res7MemHL => [0xCB#8, 0xBE#8]
  | .res7A => [0xCB#8, 0xBF#8]
  | .set0B => [0xCB#8, 0xC0#8]
  | .set0C => [0xCB#8, 0xC1#8]
  | .set0D => [0xCB#8, 0xC2#8]
  | .set0E => [0xCB#8, 0xC3#8]
  | .set0H => [0xCB#8, 0xC4#8]
  | .set0L => [0xCB#8, 0xC5#8]
  | .set0MemHL => [0xCB#8, 0xC6#8]
  | .set0A => [0xCB#8, 0xC7#8]
  | .set1B => [0xCB#8, 0xC8#8]
  | .set1C => [0xCB#8, 0xC9#8]
  | .set1D => [0xCB#8, 0xCA#8]
  | .set1E => [0xCB#8, 0xCB#8]
  | .set1H => [0xCB#8, 0xCC#8]
  | .set1L => [0xCB#8, 0xCD#8]
  | .set1MemHL => [0xCB#8, 0xCE#8]
  | .set1A => [0xCB#8, 0xCF#8]
  | .set2B => [0xCB#8, 0xD0#8]
  | .set2C => [0xCB#8, 0xD1#8]
  | .set2D => [0xCB#8, 0xD2#8]
  | .set2E => [0xCB#8, 0xD3#8]
  | .set2H => [0xCB#8, 0xD4#8]
  | .set2L => [0xCB#8, 0xD5#8]
  | .set2MemHL => [0xCB#8, 0xD6#8]
  | .set2A => [0xCB#8, 0xD7#8]
  | .set3B => [0xCB#8, 0xD8#8]
  | .set3C => [0xCB#8, 0xD9#8]
  | .set3D => [0xCB#8, 0xDA#8]
  | .set3E => [0xCB#8, 0xDB#8]
  | .set3H => [0xCB#8, 0xDC#8]
  | .set3L => [0xCB#8, 0xDD#8]
  | .set3MemHL => [0xCB#8, 0xDE#8]
  | .set3A => [0xCB#8, 0xDF#8]
  | .set4B => [0xCB#8, 0xE0#8]
  | .set4C => [0xCB#8, 0xE1#8]
  | .set4D => [0xCB#8, 0xE2#8]
  | .set4E => [0xCB#8, 0xE3#8]
  | .set4H => [0xCB#8, 0xE4#8]
  | .set4L => [0xCB#8, 0xE5#8]
  | .set4MemHL => [0xCB#8, 0xE6#8]
  | .set4A => [0xCB#8, 0xE7#8]
  | .set5B => [0xCB#8, 0xE8#8]
  | .set5C => [0xCB#8, 0xE9#8]
  | .set5D => [0xCB#8, 0xEA#8]
  | .set5E => [0xCB#8, 0xEB#8]
  | .set5H => [0xCB#8, 0xEC#8]
  | .set5L => [0xCB#8, 0xED#8]
  | .set5MemHL => [0xCB#8, 0xEE#8]
  | .set5A => [0xCB#8, 0xEF#8]
  | .set6B => [0xCB#8, 0xF0#8]
  | .set6C => [0xCB#8, 0xF1#8]
  | .set6D => [0xCB#8, 0xF2#8]
  | .set6E => [0xCB#8, 0xF3#8]
  | .set6H => [0xCB#8, 0xF4#8]
  | .set6L => [0xCB#8, 0xF5#8]
  | .set6MemHL => [0xCB#8, 0xF6#8]
  | .set6A => [0xCB#8, 0xF7#8]
  | .set7B => [0xCB#8, 0xF8#8]
  | .set7C => [0xCB#8, 0xF9#8]
  | .set7D => [0xCB#8, 0xFA#8]
  | .set7E => [0xCB#8, 0xFB#8]
  | .set7H => [0xCB#8, 0xFC#8]
  | .set7L => [0xCB#8, 0xFD#8]
  | .set7MemHL => [0xCB#8, 0xFE#8]
  | .set7A => [0xCB#8, 0xFF#8]

end Sys2Proof
end

