-- ==== Sys2Proof/Machine/Fetch.lean ====
section
/-! DEFINITION. Fetching an instruction through the router (spec/30_encoding.md R71 items 3 to 5, R78;
spec/20_memory.md R64), and placing one where it is fetched. -/

namespace Sys2Proof.Machine

/-- Read bytes in ascending address order, addresses wrapping (R64). -/
def fetchBytes : Nat → Word → State → List Byte × State
  | 0, _, s => ([], s)
  | n + 1, a, s =>
    let rd := memRead s a
    let more := fetchBytes n (a + 1#16) rd.2
    (rd.1 :: more.1, more.2)

/-- Fetch and decode the instruction at PC: the opcode byte, then as many further bytes as its format has, and no
other (R64, R71, R81). PC is not moved. -/
def fetch (s : State) : Instr × State :=
  let op := memRead s s.pc
  let more := fetchBytes (formatLength op.1 - 1) (s.pc + 1#16) op.2
  (decodeBytes op.1 (more.1.getD 0 0#8) (more.1.getD 1 0#8), more.2)

/-- The address has a cell of the core: it is not external. -/
def hasCell (a : Word) : Bool := route a != .ext

/-- The state with PC on three bytes that have cells: PC as it is where they do, else the preset's reset PC. -/
def fetchWindow (s : State) : State :=
  if hasCell s.pc && hasCell (s.pc + 1#16) && hasCell (s.pc + 2#16) then s else { s with pc := Config.resetDefault.pc }

/-- Place three bytes at PC. -/
def loadAtPc (s : State) (t : Byte × Byte × Byte) : State :=
  loadByte (loadByte (loadByte s s.pc t.1) (s.pc + 1#16) t.2.1) (s.pc + 2#16) t.2.2

end Sys2Proof.Machine
end

