-- ==== Sys2Proof/Machine/Step.lean ====
section
/-! DEFINITION. The step transaction (spec/30_encoding.md R71). -/

namespace Sys2Proof.Machine

/-- One step (R71): in Normal, fetch, execute, and commit a pending `EI`; in any other run state, nothing. -/
def step (s : State) : Host.Outcome State Fault Refusal :=
  match s.run with
  | .normal => endStep s.imePending (exec (fetch s).1 (fetch s).2)
  | .halted => .next (idleStep s)
  | .stopped => .next (idleStep s)
  | .locked => .next (idleStep s)

/-- The state with a table word's instruction placed where the next step fetches, and running
(notes/assumptions/6.md): it stands for loading a program from outside the machine. -/
def State.withFetchWord (s : State) (nbits w : Nat) : State :=
  loadAtPc (fetchWindow { s with run := .normal }) (tableBytes nbits w)

end Sys2Proof.Machine
end

