-- ==== Sys2Proof/Machine/Driver.lean ====
section
/-! DEFINITION. The driver's moves, which happen between steps (spec/60_exceptions.md R301, R303, R304;
spec/70_reset_and_hazards.md R340). -/

namespace Sys2Proof.Machine

/-- A move of the driver (R301). Stopping to step is making no further move. -/
inductive Move where
  | step
  | deliverInterrupt (vec : Word)
  | wake
  | reset
  | observe (a : Word)
  deriving DecidableEq, Repr

/-- `DeliverInterrupt` is permitted: IME is 1 and the run state is Normal or Halted (R302, R304). -/
def State.deliveryPermitted (s : State) : Bool := s.ime && (s.run == .normal || s.run == .halted)

/-- `Wake` is permitted: the run state is Halted or Stopped (R303). -/
def State.wakePermitted (s : State) : Bool := s.run == .halted || s.run == .stopped

/-- `Reset` (R340): the registers take the reset parameters, both RAMs, the ROM image and the collaborator stay. -/
def applyReset (s : State) : State :=
  { State.powerOn s.params s.mem s.ext with out := s.out }

/-- One move of the driver. A refused move is not performed: the state stays what it was (R301). Observing a
register changes nothing; observing a byte is a `MemRead`, which a collaborator sees on an external address. -/
def driverMove (m : Move) (s : State) : Host.Outcome State Fault Refusal :=
  match m with
  | .step => step s
  | .deliverInterrupt vec => if s.deliveryPermitted then .next (takeInterrupt vec s) else .refused .deliveryNotPermitted
  | .wake => if s.wakePermitted then .next { s with run := .normal } else .refused .wakeNotPermitted
  | .reset => .next (applyReset s)
  | .observe a => .next (memRead s a).2

/-- The state after a move: a refused move leaves the state as it is (R301). -/
def afterMove (m : Move) (s : State) : State :=
  match driverMove m s with
  | .next t => t
  | .fault _ => s
  | .refused _ => s

/-- The state after a schedule of moves (R305: "an input schedule"). -/
def runSchedule : List Move → State → State
  | [], s => s
  | m :: ms, s => runSchedule ms (afterMove m s)

end Sys2Proof.Machine
end

