-- ==== Sys2Proof/Machine/Timing.lean ====
section
/-! DEFINITION. The cycle costs of the opcode table (spec/70_reset_and_hazards.md R352, R353; spec/opcode_table.json),
a second reading of the numbers the meanings output. No state transition reads them (R352). -/

namespace Sys2Proof

/-- The cycle cost when the instruction's jump is taken, or its only cost (R353). An illegal byte reports 1 (R275). -/
def Instr.cyclesTaken (i : Instr) : Nat :=
  match i with
  | .nop => 1
  | .ldBCN16 _ => 3
  | .ldMemBCA => 2
  | .incBC => 2
  | .incB => 1
  | .decB => 1
  | .ldBN8 _ => 2
  | .rlca => 1
  | .ldMemA16SP _ => 5
  | .addHLBC => 2
  | .ldAMemBC => 2
  | .decBC => 2
  | .incC => 1
  | .decC => 1
  | .ldCN8 _ => 2
  | .rrca => 1
  | .stop _ => 1
  | .ldDEN16 _ => 3
  | .ldMemDEA => 2
  | .incDE => 2
  | .incD => 1
  | .decD => 1
  | .ldDN8 _ => 2
  | .rla => 1
  | .jrE8 _ => 3
  | .addHLDE => 2
  | .ldAMemDE => 2
  | .decDE => 2
  | .incE => 1
  | .decE => 1
  | .ldEN8 _ => 2
  | .rra => 1
  | .jrNZE8 _ => 3
  | .ldHLN16 _ => 3
  | .ldMemHLIncA => 2
  | .incHL => 2
  | .incH => 1
  | .decH => 1
  | .ldHN8 _ => 2
  | .daa => 1
  | .jrZE8 _ => 3
  | .addHLHL => 2
  | .ldAMemHLInc => 2
  | .decHL => 2
  | .incL => 1
  | .decL => 1
  | .ldLN8 _ => 2
  | .cpl => 1
  | .jrNCE8 _ => 3
  | .ldSPN16 _ => 3
  | .ldMemHLDecA => 2
  | .incSP => 2
  | .incMemHL => 3
  | .decMemHL => 3
  | .ldMemHLN8 _ => 3
  | .scf => 1
  | .jrCE8 _ => 3
  | .addHLSP => 2
  | .ldAMemHLDec => 2
  | .decSP => 2
  | .incA => 1
  | .decA => 1
  | .ldAN8 _ => 2
  | .ccf => 1
  | .ldBB => 1
  | .ldBC => 1
  | .ldBD => 1
  | .ldBE => 1
  | .ldBH => 1
  | .ldBL => 1
  | .ldBMemHL => 2
  | .ldBA => 1
  | .ldCB => 1
  | .ldCC => 1
  | .ldCD => 1
  | .ldCE => 1
  | .ldCH => 1
  | .ldCL => 1
  | .ldCMemHL => 2
  | .ldCA => 1
  | .ldDB => 1
  | .ldDC => 1
  | .ldDD => 1
  | .ldDE => 1
  | .ldDH => 1
  | .ldDL => 1
  | .ldDMemHL => 2
  | .ldDA => 1
  | .ldEB => 1
  | .ldEC => 1
  | .ldED => 1
  | .ldEE => 1
  | .ldEH => 1
  | .ldEL => 1
  | .ldEMemHL => 2
  | .ldEA => 1
  | .ldHB => 1
  | .ldHC => 1
  | .ldHD => 1
  | .ldHE => 1
  | .ldHH => 1
  | .ldHL => 1
  | .ldHMemHL => 2
  | .ldHA => 1
  | .ldLB => 1
  | .ldLC => 1
  | .ldLD => 1
  | .ldLE => 1
  | .ldLH => 1
  | .ldLL => 1
  | .ldLMemHL => 2
  | .ldLA => 1
  | .ldMemHLB => 2
  | .ldMemHLC => 2
  | .ldMemHLD => 2
  | .ldMemHLE => 2
  | .ldMemHLH => 2
  | .ldMemHLL => 2
  | .halt => 1
  | .ldMemHLA => 2
  | .ldAB => 1
  | .ldAC => 1
  | .ldAD => 1
  | .ldAE => 1
  | .ldAH => 1
  | .ldAL => 1
  | .ldAMemHL => 2
  | .ldAA => 1
  | .addAB => 1
  | .addAC => 1
  | .addAD => 1
  | .addAE => 1
  | .addAH => 1
  | .addAL => 1
  | .addAMemHL => 2
  | .addAA => 1
  | .adcAB => 1
  | .adcAC => 1
  | .adcAD => 1
  | .adcAE => 1
  | .adcAH => 1
  | .adcAL => 1
  | .adcAMemHL => 2
  | .adcAA => 1
  | .subAB => 1
  | .subAC => 1
  | .subAD => 1
  | .subAE => 1
  | .subAH => 1
  | .subAL => 1
  | .subAMemHL => 2
  | .subAA => 1
  | .sbcAB => 1
  | .sbcAC => 1
  | .sbcAD => 1
  | .sbcAE => 1
  | .sbcAH => 1
  | .sbcAL => 1
  | .sbcAMemHL => 2
  | .sbcAA => 1
  | .andAB => 1
  | .andAC => 1
  | .andAD => 1
  | .andAE => 1
  | .andAH => 1
  | .andAL => 1
  | .andAMemHL => 2
  | .andAA => 1
  | .xorAB => 1
  | .xorAC => 1
  | .xorAD => 1
  | .xorAE => 1
  | .xorAH => 1
  | .xorAL => 1
  | .xorAMemHL => 2
  | .xorAA => 1
  | .orAB => 1
  | .orAC => 1
  | .orAD => 1
  | .orAE => 1
  | .orAH => 1
  | .orAL => 1
  | .orAMemHL => 2
  | .orAA => 1
  | .cpAB => 1
  | .cpAC => 1
  | .cpAD => 1
  | .cpAE => 1
  | .cpAH => 1
  | .cpAL => 1
  | .cpAMemHL => 2
  | .cpAA => 1
  | .retNZ => 5
  | .popBC => 3
  | .jpNZA16 _ => 4
  | .jpA16 _ => 4
  | .callNZA16 _ => 6
  | .pushBC => 4
  | .addAN8 _ => 2
  | .rst00 => 4
  | .retZ => 5
  | .ret => 4
  | .jpZA16 _ => 4
  | .callZA16 _ => 6
  | .callA16 _ => 6
  | .adcAN8 _ => 2
  | .rst08 => 4
  | .retNC => 5
  | .popDE => 3
  | .jpNCA16 _ => 4
  | .illegalD3 => 1
  | .callNCA16 _ => 6
  | .pushDE => 4
  | .subAN8 _ => 2
  | .rst10 => 4
  | .retC => 5
  | .reti => 4
  | .jpCA16 _ => 4
  | .illegalDB => 1
  | .callCA16 _ => 6
  | .illegalDD => 1
  | .sbcAN8 _ => 2
  | .rst18 => 4
  | .ldhMemA8A _ => 3
  | .popHL => 3
  | .ldhMemCA => 2
  | .illegalE3 => 1
  | .illegalE4 => 1
  | .pushHL => 4
  | .andAN8 _ => 2
  | .rst20 => 4
  | .addSPE8 _ => 4
  | .jpHL => 1
  | .ldMemA16A _ => 4
  | .illegalEB => 1
  | .illegalEC => 1
  | .illegalED => 1
  | .xorAN8 _ => 2
  | .rst28 => 4
  | .ldhAMemA8 _ => 3
  | .popAF => 3
  | .ldhAMemC => 2
  | .di => 1
  | .illegalF4 => 1
  | .pushAF => 4
  | .orAN8 _ => 2
  | .rst30 => 4
  | .ldHLSPE8 _ => 3
  | .ldSPHL => 2
  | .ldAMemA16 _ => 4
  | .ei => 1
  | .illegalFC => 1
  | .illegalFD => 1
  | .cpAN8 _ => 2
  | .rst38 => 4
  | .cbRlcB => 2
  | .cbRlcC => 2
  | .cbRlcD => 2
  | .cbRlcE => 2
  | .cbRlcH => 2
  | .cbRlcL => 2
  | .cbRlcMemHL => 4
  | .cbRlcA => 2
  | .cbRrcB => 2
  | .cbRrcC => 2
  | .cbRrcD => 2
  | .cbRrcE => 2
  | .cbRrcH => 2
  | .cbRrcL => 2
  | .cbRrcMemHL => 4
  | .cbRrcA => 2
  | .cbRlB => 2
  | .cbRlC => 2
  | .cbRlD => 2
  | .cbRlE => 2
  | .cbRlH => 2
  | .cbRlL => 2
  | .cbRlMemHL => 4
  | .cbRlA => 2
  | .cbRrB => 2
  | .cbRrC => 2
  | .cbRrD => 2
  | .cbRrE => 2
  | .cbRrH => 2
  | .cbRrL => 2
  | .cbRrMemHL => 4
  | .cbRrA => 2
  | .cbSlaB => 2
  | .cbSlaC => 2
  | .cbSlaD => 2
  | .cbSlaE => 2
  | .cbSlaH => 2
  | .cbSlaL => 2
  | .cbSlaMemHL => 4
  | .cbSlaA => 2
  | .cbSraB => 2
  | .cbSraC => 2
  | .cbSraD => 2
  | .cbSraE => 2
  | .cbSraH => 2
  | .cbSraL => 2
  | .cbSraMemHL => 4
  | .cbSraA => 2
  | .cbSwapB => 2
  | .cbSwapC => 2
  | .cbSwapD => 2
  | .cbSwapE => 2
  | .cbSwapH => 2
  | .cbSwapL => 2
  | .cbSwapMemHL => 4
  | .cbSwapA => 2
  | .cbSrlB => 2
  | .cbSrlC => 2
  | .cbSrlD => 2
  | .cbSrlE => 2
  | .cbSrlH => 2
  | .cbSrlL => 2
  | .cbSrlMemHL => 4
  | .cbSrlA => 2
  | .bit0B => 2
  | .bit0C => 2
  | .bit0D => 2
  | .bit0E => 2
  | .bit0H => 2
  | .bit0L => 2
  | .bit0MemHL => 3
  | .bit0A => 2
  | .bit1B => 2
  | .bit1C => 2
  | .bit1D => 2
  | .bit1E => 2
  | .bit1H => 2
  | .bit1L => 2
  | .bit1MemHL => 3
  | .bit1A => 2
  | .bit2B => 2
  | .bit2C => 2
  | .bit2D => 2
  | .bit2E => 2
  | .bit2H => 2
  | .bit2L => 2
  | .bit2MemHL => 3
  | .bit2A => 2
  | .bit3B => 2
  | .bit3C => 2
  | .bit3D => 2
  | .bit3E => 2
  | .bit3H => 2
  | .bit3L => 2
  | .bit3MemHL => 3
  | .bit3A => 2
  | .bit4B => 2
  | .bit4C => 2
  | .bit4D => 2
  | .bit4E => 2
  | .bit4H => 2
  | .bit4L => 2
  | .bit4MemHL => 3
  | .bit4A => 2
  | .bit5B => 2
  | .bit5C => 2
  | .bit5D => 2
  | .bit5E => 2
  | .bit5H => 2
  | .bit5L => 2
  | .bit5MemHL => 3
  | .bit5A => 2
  | .bit6B => 2
  | .bit6C => 2
  | .bit6D => 2
  | .bit6E => 2
  | .bit6H => 2
  | .bit6L => 2
  | .bit6MemHL => 3
  | .bit6A => 2
  | .bit7B => 2
  | .bit7C => 2
  | .bit7D => 2
  | .bit7E => 2
  | .bit7H => 2
  | .bit7L => 2
  | .bit7MemHL => 3
  | .bit7A => 2
  | .res0B => 2
  | .res0C => 2
  | .res0D => 2
  | .res0E => 2
  | .res0H => 2
  | .res0L => 2
  | .res0MemHL => 4
  | .res0A => 2
  | .res1B => 2
  | .res1C => 2
  | .res1D => 2
  | .res1E => 2
  | .res1H => 2
  | .res1L => 2
  | .res1MemHL => 4
  | .res1A => 2
  | .res2B => 2
  | .res2C => 2
  | .res2D => 2
  | .res2E => 2
  | .res2H => 2
  | .res2L => 2
  | .res2MemHL => 4
  | .res2A => 2
  | .res3B => 2
  | .res3C => 2
  | .res3D => 2
  | .res3E => 2
  | .res3H => 2
  | .res3L => 2
  | .res3MemHL => 4
  | .res3A => 2
  | .res4B => 2
  | .res4C => 2
  | .res4D => 2
  | .res4E => 2
  | .res4H => 2
  | .res4L => 2
  | .res4MemHL => 4
  | .res4A => 2
  | .res5B => 2
  | .res5C => 2
  | .res5D => 2
  | .res5E => 2
  | .res5H => 2
  | .res5L => 2
  | .res5MemHL => 4
  | .res5A => 2
  | .res6B => 2
  | .res6C => 2
  | .res6D => 2
  | .res6E => 2
  | .res6H => 2
  | .res6L => 2
  | .res6MemHL => 4
  | .res6A => 2
  | .res7B => 2
  | .res7C => 2
  | .res7D => 2
  | .res7E => 2
  | .res7H => 2
  | .res7L => 2
  | .res7MemHL => 4
  | .res7A => 2
  | .set0B => 2
  | .set0C => 2
  | .set0D => 2
  | .set0E => 2
  | .set0H => 2
  | .set0L => 2
  | .set0MemHL => 4
  | .set0A => 2
  | .set1B => 2
  | .set1C => 2
  | .set1D => 2
  | .set1E => 2
  | .set1H => 2
  | .set1L => 2
  | .set1MemHL => 4
  | .set1A => 2
  | .set2B => 2
  | .set2C => 2
  | .set2D => 2
  | .set2E => 2
  | .set2H => 2
  | .set2L => 2
  | .set2MemHL => 4
  | .set2A => 2
  | .set3B => 2
  | .set3C => 2
  | .set3D => 2
  | .set3E => 2
  | .set3H => 2
  | .set3L => 2
  | .set3MemHL => 4
  | .set3A => 2
  | .set4B => 2
  | .set4C => 2
  | .set4D => 2
  | .set4E => 2
  | .set4H => 2
  | .set4L => 2
  | .set4MemHL => 4
  | .set4A => 2
  | .set5B => 2
  | .set5C => 2
  | .set5D => 2
  | .set5E => 2
  | .set5H => 2
  | .set5L => 2
  | .set5MemHL => 4
  | .set5A => 2
  | .set6B => 2
  | .set6C => 2
  | .set6D => 2
  | .set6E => 2
  | .set6H => 2
  | .set6L => 2
  | .set6MemHL => 4
  | .set6A => 2
  | .set7B => 2
  | .set7C => 2
  | .set7D => 2
  | .set7E => 2
  | .set7H => 2
  | .set7L => 2
  | .set7MemHL => 4
  | .set7A => 2

/-- The cycle cost when a conditional jump, call or return is not taken; of any other instruction its only cost
(R353). -/
def Instr.cyclesNotTaken (i : Instr) : Nat :=
  match i with
  | .jrNZE8 _ => 2
  | .jrZE8 _ => 2
  | .jrNCE8 _ => 2
  | .jrCE8 _ => 2
  | .retNZ => 2
  | .jpNZA16 _ => 3
  | .callNZA16 _ => 3
  | .retZ => 2
  | .jpZA16 _ => 3
  | .callZA16 _ => 3
  | .retNC => 2
  | .jpNCA16 _ => 3
  | .callNCA16 _ => 3
  | .retC => 2
  | .jpCA16 _ => 3
  | .callCA16 _ => 3
  | i => i.cyclesTaken

end Sys2Proof
end

