-- ==== Sys2Proof/WellFormed.lean ====
section
/-! DEFINITION. Which terms of `Instr` are instructions. Every operand's type has exactly the width its encoding
gives it, so the one check left is that the term is not one of the eleven illegal bytes (spec/30_encoding.md R81). -/

namespace Sys2Proof

/-- "Eleven values of byte 0 are not instructions" (R81): the byte of an illegal row. -/
def Instr.illegalByte (i : Instr) : Option Byte :=
  match i with
  | .illegalD3 => some 0xD3#8
  | .illegalDB => some 0xDB#8
  | .illegalDD => some 0xDD#8
  | .illegalE3 => some 0xE3#8
  | .illegalE4 => some 0xE4#8
  | .illegalEB => some 0xEB#8
  | .illegalEC => some 0xEC#8
  | .illegalED => some 0xED#8
  | .illegalF4 => some 0xF4#8
  | .illegalFC => some 0xFC#8
  | .illegalFD => some 0xFD#8
  | _ => none

/-- The term is an instruction: not one of the eleven illegal rows. -/
def Instr.wellFormed (i : Instr) : Bool := i.illegalByte.isNone

end Sys2Proof
end

