-- ==== Sys2Proof/Safety.lean ====
section
/-! DEFINITION. The terms claims use: what holds of every state a machine reaches, how a run ends, and the premise on
the ROM image. -/

namespace Sys2Proof.Machine

/-- The invariant of the core: memory is in its canonical form and lists only cells that exist
(spec/20_memory.md R43), and `F[3:0] = 0` (spec/10_state.md R12). -/
structure State.Inv (s : State) : Prop where
  memCanonical : Memory.wf s.mem = true
  memInCells : Memory.inCells s.mem = true
  flagsLow : s.f &&& 0x0F#8 = 0#8

/-- A run is at its end (spec/70_reset_and_hazards.md R343): a boundary between steps at which the run state is not
Normal, with the driver making no further move. -/
def State.atEnd (s : State) : Bool := s.run != .normal

/-- The successful ends: Halted after `HALT`, Stopped after `STOP` (R343). -/
def State.endedWell (s : State) : Bool := s.run == .halted || s.run == .stopped

/-- Locked after an illegal opcode: "a fault, never a successful end" (R343; spec/60_exceptions.md R310). -/
def State.endedInFault (s : State) : Bool := s.run == .locked

/-- The premise on the ROM image: its cartridge-type byte is 0x00 (spec/20_memory.md R57). No rule of the core reads
it. -/
def State.romPremise (s : State) : Bool := peek s 0x0147#16 == 0#8

/-- Steps until the end of the run, at most `fuel` of them (R343). -/
def runToEnd : Nat → State → Host.Outcome State Fault Refusal
  | 0, s => .next s
  | fuel + 1, s =>
    if s.atEnd then .next s
    else
      match step s with
      | .next t => runToEnd fuel t
      | .fault φ => .fault φ
      | .refused ρ => .refused ρ

end Sys2Proof.Machine
end

