-- ==== Sys2Proof/Certificates/Slice0/Obligations.lean ====
section
/-! DEFINITION. The statements for the provers, and the vocabulary they use. Each statement says what a rule of the
spec says in the rule's own terms: a flag byte from its four flags, an untruncated sum on numbers, the bytes of an
encoding from their bit fields. -/

open Sys2Proof Sys2Proof.Machine

namespace Sys2Proof.Claims

/-- `F = {Z, N, H, C, 0, 0, 0, 0}` as a number (spec/10_state.md R14). -/
def flagByte (z n h c : Bool) : Byte :=
  BitVec.ofNat 8 (0x80 * z.toNat + 0x40 * n.toNat + 0x20 * h.toNat + 0x10 * c.toNat)

/-- The state with the four flags written. -/
def flags (s : State) (z n h c : Bool) : State := { s with f := flagByte z n h c }

/-- The end of an instruction that does not write PC itself: PC passes the instruction's bytes, the step hands back
its length and cycles (spec/10_state.md R20; spec/30_encoding.md R71). -/
def ends (s : State) (length cycles : Nat) : State :=
  { s with pc := s.pc + BitVec.ofNat 16 length, out := ⟨length, cycles, none⟩ }

/-- The end of an instruction that writes PC. -/
def endsAt (s : State) (target : Word) (length cycles : Nat) : State :=
  { s with pc := target, out := ⟨length, cycles, none⟩ }

/-- The instruction's bytes are these: the encoder writes them, and the decoder reads the instruction from them
whatever follows. -/
def EncodedAs (i : Instr) (bytes : List Byte) : Prop :=
  encode i = bytes ∧ ∀ rest, decode (bytes ++ rest) = .ok (i, rest)

/-- A byte of an encoding, from the value of its bit fields. -/
def op (v : Nat) : Byte := BitVec.ofNat 8 v

/-- The state after `Push16(v)` (spec/41_load16_stack.md R132): "The two writes are, in order, to old SP minus 1 and
old SP minus 2." -/
def pushed (s : State) (v : Word) : State :=
  { memWrite (memWrite s (s.sp - 1#16) (hi8 v)) (s.sp - 2#16) (lo8 v) with sp := s.sp - 2#16 }

/-- The low byte's read of `Pop16()`, and the high byte's read after it (spec/41_load16_stack.md R133). -/
def popLow (s : State) : Byte × State := memRead s s.sp
def popHigh (s : State) : Byte × State := memRead (popLow s).2 (s.sp + 1#16)

/-- The state after `Pop16()`: "SP ends 2 higher (modulo 65536)". -/
def popped (s : State) : State := { (popHigh s).2 with sp := s.sp + 2#16 }

/-- The value of `Pop16()`: `{hi, lo}`. -/
def popValue (s : State) : Word := pair16 (popHigh s).1 (popLow s).1

/-- `sext_16(b)`: `b` if `b[7] = 0`, else `b + 0xFF00` (spec/43_alu16.md R201). -/
def sextNat (b : Byte) : Nat := if b.toNat < 0x80 then b.toNat else b.toNat + 0xFF00

/-- The one-bit functions on numbers: result and carry out (spec/44_rotate_shift_bit.md R210). -/
def rotNat (f : RotOp) (v : Nat) (cin : Bool) : Nat × Bool :=
  match f with
  | .rlc => (2 * v % 256 + v / 128, decide (v / 128 = 1))
  | .rrc => (128 * (v % 2) + v / 2, decide (v % 2 = 1))
  | .rl => (2 * v % 256 + cin.toNat, decide (v / 128 = 1))
  | .rr => (128 * cin.toNat + v / 2, decide (v % 2 = 1))
  | .sla => (2 * v % 256, decide (v / 128 = 1))
  | .sra => (128 * (v / 128) + v / 2, decide (v % 2 = 1))
  | .swap => (16 * (v % 16) + v / 16, false)
  | .srl => (v / 2, decide (v % 2 = 1))

/-- The address has a cell that keeps what is written: working RAM, echo RAM or high RAM. -/
def inRam (a : Word) : Prop :=
  (0xC000 ≤ a.toNat ∧ a.toNat < 0xFE00) ∨ (0xFF80 ≤ a.toNat ∧ a.toNat < 0xFFFF)

/-- The address is in the ROM window. -/
def inRom (a : Word) : Prop := a.toNat < 0x8000

/-- The address is in a region of the external port (spec/20_memory.md R44). -/
def isExternal (a : Word) : Prop :=
  (0x8000 ≤ a.toNat ∧ a.toNat < 0xC000) ∨ (0xFE00 ≤ a.toNat ∧ a.toNat < 0xFF80) ∨ a.toNat = 0xFFFF

/-- The control transfers: the instructions whose rule executes `pc <- target` (spec/45_control_flow.md). -/
inductive ControlTransfer : Instr → Prop
  | jp (a : Word) : ControlTransfer (.jpA16 a)
  | jpCc (cc : Cond) (a : Word) : ControlTransfer (Sel.jpCc a cc)
  | jpHL : ControlTransfer .jpHL
  | jr (e : Byte) : ControlTransfer (.jrE8 e)
  | jrCc (cc : Cond) (e : Byte) : ControlTransfer (Sel.jrCc e cc)
  | call (a : Word) : ControlTransfer (.callA16 a)
  | callCc (cc : Cond) (a : Word) : ControlTransfer (Sel.callCc a cc)
  | ret : ControlTransfer .ret
  | retCc (cc : Cond) : ControlTransfer (Sel.retCc cc)
  | reti : ControlTransfer .reti
  | rst (t : Fin 8) : ControlTransfer (Sel.rst t)

/-- The instructions that write no flag (spec/10_state.md R16): the loads but `LD HL,SP+e8` (R137), the stack
operations but `POP AF`, 16-bit `INC` and `DEC`, `RES`, `SET`, control flow and the system instructions. -/
inductive WritesNoFlag : Instr → Prop
  | ld (r r' : R8) : WritesNoFlag (Sel.ld (.reg r) (.reg r'))
  | ldFromHL (r : R8) : WritesNoFlag (Sel.ld (.reg r) .atHL)
  | ldToHL (r : R8) : WritesNoFlag (Sel.ld .atHL (.reg r))
  | ldN8 (l : Loc) (n : Byte) : WritesNoFlag (Sel.ldN8 n l)
  | ldAFrom (m : R16Mem) : WritesNoFlag (Sel.ldAFrom m)
  | ldToA (m : R16Mem) : WritesNoFlag (Sel.ldToA m)
  | ldAMemA16 (a : Word) : WritesNoFlag (.ldAMemA16 a)
  | ldMemA16A (a : Word) : WritesNoFlag (.ldMemA16A a)
  | ldhAMemA8 (a : Byte) : WritesNoFlag (.ldhAMemA8 a)
  | ldhMemA8A (a : Byte) : WritesNoFlag (.ldhMemA8A a)
  | ldhAMemC : WritesNoFlag .ldhAMemC
  | ldhMemCA : WritesNoFlag .ldhMemCA
  | ldN16 (p : R16) (n : Word) : WritesNoFlag (Sel.ldN16 n p)
  | ldMemA16SP (a : Word) : WritesNoFlag (.ldMemA16SP a)
  | ldSPHL : WritesNoFlag .ldSPHL
  | push (p : R16Stk) : WritesNoFlag (Sel.push p)
  | pop (p : R16Stk) (h : p ≠ .af) : WritesNoFlag (Sel.pop p)
  | inc16 (p : R16) : WritesNoFlag (Sel.inc16 p)
  | dec16 (p : R16) : WritesNoFlag (Sel.dec16 p)
  | res (b : Fin 8) (l : Loc) : WritesNoFlag (Sel.res b l)
  | set (b : Fin 8) (l : Loc) : WritesNoFlag (Sel.set b l)
  | transfer (i : Instr) (h : ControlTransfer i) : WritesNoFlag i
  | nop : WritesNoFlag .nop
  | halt : WritesNoFlag .halt
  | stop (n : Byte) : WritesNoFlag (.stop n)
  | di : WritesNoFlag .di
  | ei : WritesNoFlag .ei
  | illegal (i : Instr) (h : i.wellFormed = false) : WritesNoFlag i

/-- The instructions that write SP (spec/10_state.md R18). -/
inductive WritesSP : Instr → Prop
  | ldSPN16 (n : Word) : WritesSP (.ldSPN16 n)
  | ldSPHL : WritesSP .ldSPHL
  | incSP : WritesSP .incSP
  | decSP : WritesSP .decSP
  | addSPE8 (e : Byte) : WritesSP (.addSPE8 e)
  | push (p : R16Stk) : WritesSP (Sel.push p)
  | pop (p : R16Stk) : WritesSP (Sel.pop p)
  | call (a : Word) : WritesSP (.callA16 a)
  | callCc (cc : Cond) (a : Word) : WritesSP (Sel.callCc a cc)
  | ret : WritesSP .ret
  | retCc (cc : Cond) : WritesSP (Sel.retCc cc)
  | reti : WritesSP .reti
  | rst (t : Fin 8) : WritesSP (Sel.rst t)

/-- The instruction, started in the state, stores a byte at the address: every storing form with the address its
rule computes. -/
inductive Stores : Instr → State → Word → Prop
  | ldToHL (r : R8) (s : State) : Stores (Sel.ld .atHL (.reg r)) s s.hl
  | ldN8ToHL (n : Byte) (s : State) : Stores (Sel.ldN8 n .atHL) s s.hl
  | ldToBC (s : State) : Stores (Sel.ldToA .bc) s s.bc
  | ldToDE (s : State) : Stores (Sel.ldToA .de) s s.de
  | ldToHLInc (s : State) : Stores (Sel.ldToA .hlInc) s s.hl
  | ldToHLDec (s : State) : Stores (Sel.ldToA .hlDec) s s.hl
  | ldMemA16A (a : Word) (s : State) : Stores (.ldMemA16A a) s a
  | ldhMemA8A (a : Byte) (s : State) : Stores (.ldhMemA8A a) s (pair16 0xFF#8 a)
  | ldhMemCA (s : State) : Stores .ldhMemCA s (pair16 0xFF#8 s.c)
  | ldMemA16SPLow (a : Word) (s : State) : Stores (.ldMemA16SP a) s a
  | ldMemA16SPHigh (a : Word) (s : State) : Stores (.ldMemA16SP a) s (a + 1#16)
  | incAtHL (s : State) : Stores (Sel.inc8 .atHL) s s.hl
  | decAtHL (s : State) : Stores (Sel.dec8 .atHL) s s.hl
  | rotAtHL (f : RotOp) (s : State) : Stores (Sel.rot f .atHL) s s.hl
  | resAtHL (b : Fin 8) (s : State) : Stores (Sel.res b .atHL) s s.hl
  | setAtHL (b : Fin 8) (s : State) : Stores (Sel.set b .atHL) s s.hl
  | pushHigh (p : R16Stk) (s : State) : Stores (Sel.push p) s (s.sp - 1#16)
  | pushLow (p : R16Stk) (s : State) : Stores (Sel.push p) s (s.sp - 2#16)
  | callHigh (a : Word) (s : State) : Stores (.callA16 a) s (s.sp - 1#16)
  | callLow (a : Word) (s : State) : Stores (.callA16 a) s (s.sp - 2#16)
  | callCcHigh (cc : Cond) (a : Word) (s : State) (h : s.cond cc = true) : Stores (Sel.callCc a cc) s (s.sp - 1#16)
  | callCcLow (cc : Cond) (a : Word) (s : State) (h : s.cond cc = true) : Stores (Sel.callCc a cc) s (s.sp - 2#16)
  | rstHigh (t : Fin 8) (s : State) : Stores (Sel.rst t) s (s.sp - 1#16)
  | rstLow (t : Fin 8) (s : State) : Stores (Sel.rst t) s (s.sp - 2#16)

end Sys2Proof.Claims

open Sys2Proof.Claims

/-! Encoding and the step. -/

/-- A few words written out from the spec's worked examples and encodings decode to their instructions
(spec/30_encoding.md R79, R80). -/
def Obligations.WrittenOutWordsDecode : Prop :=
  decode [0x01#8, 0x34#8, 0x12#8] = .ok (.ldBCN16 0x1234#16, []) ∧
  decode [0x41#8] = .ok (.ldBC, []) ∧
  decode [0x10#8, 0x55#8] = .ok (.stop 0x55#8, []) ∧
  decode [0x76#8] = .ok (.halt, []) ∧
  decode [0xF8#8, 0x08#8] = .ok (.ldHLSPE8 0x08#8, []) ∧
  decode [0xC2#8, 0x34#8, 0x12#8] = .ok (.jpNZA16 0x1234#16, []) ∧
  decode [0xCB#8, 0x7C#8] = .ok (.bit7H, []) ∧
  decode [0xCB#8, 0x37#8] = .ok (.cbSwapA, []) ∧
  decode [0xCB#8, 0xDB#8] = .ok (.set3E, []) ∧
  decode [0xDB#8] = .ok (.illegalDB, []) ∧
  decode [0xFF#8] = .ok (.rst38, [])

/-- Decode and encode agree: whatever bytes follow, every instruction is read back from its encoding with every
operand at every value, the eleven illegal rows included. -/
def Obligations.DecodeOfEncodeIsTheInstruction : Prop :=
  ∀ (i : Instr) (rest : List Byte), decode (encode i ++ rest) = .ok (i, rest)

/-- Each byte sequence has one meaning: what the decoder reads is re-encoded to exactly the bytes it consumed. -/
def Obligations.DecodedBytesAreTheEncoding : Prop :=
  ∀ (bytes rest : List Byte) (i : Instr), decode bytes = .ok (i, rest) → encode i ++ rest = bytes

/-- Every value of byte 0 begins exactly one instruction, of 1 to 3 bytes, whose length is a function of byte 0
alone; it is one of the eleven illegal rows exactly when byte 0 is one of the eleven values (spec/30_encoding.md
R70, R81), and behind 0xCB every second byte is an instruction (R80). -/
def Obligations.EveryByteBeginsOneInstruction : Prop :=
  (∀ b0 : Byte, 1 ≤ formatLength b0 ∧ formatLength b0 ≤ 3 ∧
    ∀ (b1 b2 : Byte) (rest : List Byte), ∃ i,
      decode (b0 :: b1 :: b2 :: rest) = .ok (i, (b0 :: b1 :: b2 :: rest).drop (formatLength b0)) ∧
      (encode i).length = formatLength b0 ∧
      (i.wellFormed = false ↔
        b0 ∈ [0xD3#8, 0xDB#8, 0xDD#8, 0xE3#8, 0xE4#8, 0xEB#8, 0xEC#8, 0xED#8, 0xF4#8, 0xFC#8, 0xFD#8])) ∧
  formatLength 0xCB#8 = 2

/-- A step runs the decoded instruction, where its bytes have no read effect: no collaborator is attached, or the
three bytes at PC lie in cells of the core. The step is `exec` of the instruction that the bytes at PC decode to,
with the pending `EI` committed at its end unless the core locked (the spec's own decisions D1 and D18). -/
def Obligations.StepRunsTheInstructionAtPC : Prop :=
  ∀ (s : State) (i : Instr) (rest : List Byte), s.run = .normal →
    (s.ext = .absent ∨ (¬ isExternal s.pc ∧ ¬ isExternal (s.pc + 1#16) ∧ ¬ isExternal (s.pc + 2#16))) →
    decode [peek s s.pc, peek s (s.pc + 1#16), peek s (s.pc + 2#16)] = .ok (i, rest) →
    step s =
      match exec i s with
      | .next t =>
        .next (if t.run ≠ .locked ∧ s.imePending = true ∧ t.imePending = true
          then { t with ime := true, imePending := false } else t)
      | .fault φ => .fault φ
      | .refused ρ => .refused ρ

/-- The step in general, a collaborator attached or not: the instruction's own bytes are read through the router in
ascending address order, no other byte is, and the instruction runs in the state those reads leave with the pending
`EI` committed at its end unless the core locked (the spec's own decisions: the order of the reads is D7,
notes/assumptions/12.md; that an illegal byte locks the core is D1, notes/assumptions/8.md; at which boundary an
`EI` commits, and that a locked step does not, is D18, notes/assumptions/13.md). -/
def Obligations.StepFetchesExactlyTheInstructionsBytes : Prop :=
  ∀ (s : State) (n : Nat) (i : Instr), s.run = .normal →
    decode (fetchBytes n s.pc s).1 = .ok (i, []) →
    step s =
      match exec i (fetchBytes n s.pc s).2 with
      | .next t =>
        .next (if t.run ≠ .locked ∧ s.imePending = true ∧ t.imePending = true
          then { t with ime := true, imePending := false } else t)
      | .fault φ => .fault φ
      | .refused ρ => .refused ρ

/-- A step in Halted, Stopped or Locked does nothing and reports length 0, cycles 1; no byte is fetched (the spec's
own decision D2: spec/70_reset_and_hazards.md R354). -/
def Obligations.StepOutsideNormalDoesNothing : Prop :=
  ∀ s : State, s.run ≠ .normal → step s = .next { s with out := ⟨0, 1, none⟩ }

/-- Every step of every state ends in a next state: the core never faults and never refuses. That an illegal byte is
no fault of the step but a next state in Locked with the report is the model's DESIGN CHOICE of
notes/assumptions/8.md, on the spec's own decision D1 (R300 and R310 of spec/60_exceptions.md call InvalidOpcode a
fault and let a model stop there); that a step outside Normal goes on, changing nothing, is its decision D2
(notes/assumptions/14.md). -/
def Obligations.EveryStepAnswersANextState : Prop :=
  ∀ s : State, ∃ t, step s = .next t

/-- Every instruction completes in every state, and hands back the length of its encoding and a cycle count of the
opcode table; an illegal byte hands back length 0, cycles 1 and the report (the spec's own decision D1). For an
instruction with one cost the two counts are the same number. -/
def Obligations.EveryInstructionCompletesWithTheTablesLengthAndCycles : Prop :=
  ∀ (i : Instr) (s : State), ∃ t, exec i s = .next t ∧
    match i.illegalByte with
    | some b => t.out = ⟨0, 1, some (.invalidOpcode b)⟩
    | none =>
      t.out = ⟨(encode i).length, i.cyclesTaken, none⟩ ∨ t.out = ⟨(encode i).length, i.cyclesNotTaken, none⟩

/-! Rules over all instructions. -/

/-- Executed in Normal, an instruction leaves Normal only as `HALT` (to Halted), `STOP` (to Stopped) and the eleven
illegal bytes (to Locked) do. That an illegal byte leads to Locked is the spec's own decision D1 (spec/10_state.md
R22, spec/46_system.md R275; notes/assumptions/8.md). -/
def Obligations.OnlyHaltStopAndIllegalBytesLeaveNormal : Prop :=
  ∀ (i : Instr) (s t : State), s.run = .normal → exec i s = .next t →
    (t.run = .halted ↔ i = .halt) ∧ (t.run = .stopped ↔ ∃ n, i = .stop n) ∧
    (t.run = .locked ↔ i.wellFormed = false)

/-- An instruction that is no control transfer and completes passes exactly its own bytes, wrapping. -/
def Obligations.PcPassesTheInstructionUnlessItTransfersControl : Prop :=
  ∀ (i : Instr) (s t : State), ¬ ControlTransfer i → i.wellFormed = true → exec i s = .next t →
    t.pc = s.pc + BitVec.ofNat 16 (encode i).length

/-- Flags an instruction does not write keep their values: the instructions that write no flag, and the partial
writers of spec/10_state.md R16. That an illegal byte changes none is the spec's own decision D1
(notes/assumptions/8.md). -/
def Obligations.UnwrittenFlagsKeepTheirValues : Prop :=
  (∀ (i : Instr) (s t : State), WritesNoFlag i → exec i s = .next t → t.f = s.f) ∧
  (∀ (l : Loc) (i : Instr) (s t : State), i = Sel.inc8 l ∨ i = Sel.dec8 l → exec i s = .next t →
    t.flagC = s.flagC) ∧
  (∀ (p : R16) (s t : State), exec (Sel.addHL p) s = .next t → t.flagZ = s.flagZ) ∧
  (∀ (b : Fin 8) (l : Loc) (s t : State), exec (Sel.bit b l) s = .next t → t.flagC = s.flagC) ∧
  (∀ s t : State, exec .cpl s = .next t → t.flagZ = s.flagZ ∧ t.flagC = s.flagC) ∧
  (∀ s t : State, exec .scf s = .next t → t.flagZ = s.flagZ) ∧
  (∀ s t : State, exec .ccf s = .next t → t.flagZ = s.flagZ) ∧
  (∀ s t : State, exec .daa s = .next t → t.flagN = s.flagN)

/-- SP is written by the instructions of spec/10_state.md R18 and by no other. That an illegal byte leaves it is the
spec's own decision D1 (notes/assumptions/8.md). -/
def Obligations.OnlyStackAndSPInstructionsChangeSP : Prop :=
  ∀ (i : Instr) (s t : State), ¬ WritesSP i → exec i s = .next t → t.sp = s.sp

/-- The memory frame of every instruction: a byte of ROM, working RAM, echo RAM or high RAM whose cell the
instruction stores nothing to reads as before. `route` names the cell, so an address and its echo are one place.
With no collaborator attached every byte of the external regions reads as before too. What an absent port does is
the spec's own decision D9 (notes/assumptions/3.md); that an illegal byte stores nothing is its decision D1
(notes/assumptions/8.md); that the unusable gap is external is its inference D17 (notes/assumptions/19.md). -/
def Obligations.MemoryChangesOnlyWhereTheInstructionStores : Prop :=
  ∀ (i : Instr) (s t : State), exec i s = .next t →
    (∀ b : Word, ¬ isExternal b → (∀ a, Stores i s a → route a ≠ route b) → peek t b = peek s b) ∧
    (s.ext = .absent → ∀ b : Word, isExternal b → peek t b = peek s b)

/-- IME changes in a step only as the rules say: to 0 by `DI`, to 1 by `RETI` or at the end of a step before which
an `EI` was pending (when it commits is the spec's own decision D18). -/
def Obligations.ImeChangesOnlyByDiRetiAndTheCommit : Prop :=
  ∀ s t : State, step s = .next t → t.ime ≠ s.ime →
    (t.ime = false ∧ (fetch s).1 = .di) ∨ (t.ime = true ∧ ((fetch s).1 = .reti ∨ s.imePending = true))

/-- The `EI` delay. A step that executes `EI` with none pending leaves IME and sets IME_pending; a step that
completes an instruction with an `EI` pending ends with IME 1 and none pending, unless the instruction is `DI`,
which leaves both 0; a step that fetches an illegal byte does not commit (the spec's own decisions D6 and D18). -/
def Obligations.EiTakesEffectAfterTheNextInstruction : Prop :=
  (∀ s t : State, s.run = .normal → s.imePending = false → (fetch s).1 = .ei → step s = .next t →
    t.ime = s.ime ∧ t.imePending = true) ∧
  (∀ s t : State, s.run = .normal → s.imePending = true → (fetch s).1.wellFormed = true → (fetch s).1 ≠ .di →
    step s = .next t → t.ime = true ∧ t.imePending = false) ∧
  (∀ s t : State, s.run = .normal → (fetch s).1 = .di → step s = .next t →
    t.ime = false ∧ t.imePending = false) ∧
  (∀ s t : State, s.run = .normal → (fetch s).1.wellFormed = false → step s = .next t →
    t.ime = s.ime ∧ t.imePending = s.imePending)

/-! Invariants. -/

/-- Every step keeps the invariant, from every state that meets it: memory stays canonical and lists only cells that
exist, and the flag byte's low nibble stays zero. -/
def Obligations.EveryStepKeepsTheInvariant : Prop :=
  ∀ s t : State, s.Inv → step s = .next t → t.Inv

/-- The invariant holds after reset, whatever the reset parameters and the port, for any memory contents in the
canonical form; so it holds of `State.reset`. -/
def Obligations.ResetMeetsTheInvariant : Prop :=
  (∀ (p : ResetParams) (mem : List Host.Cell) (ext : ExtPort), Memory.wf mem = true → Memory.inCells mem = true →
    (State.powerOn p mem ext).Inv) ∧
  State.reset.Inv

/-- Every schedule of driver moves keeps the invariant: steps, interrupt deliveries, wakes, resets and observations in
any order, refused moves among them. -/
def Obligations.EveryDriverScheduleKeepsTheInvariant : Prop :=
  ∀ (moves : List Move) (s : State), s.Inv → (runSchedule moves s).Inv

/-- The ROM image and the reset parameters never change, whatever the program stores and the driver does. -/
def Obligations.NoScheduleChangesRomOrParameters : Prop :=
  ∀ (moves : List Move) (s : State),
    (runSchedule moves s).params = s.params ∧
    ∀ a : Word, inRom a → peek (runSchedule moves s) a = peek s a

/-- Locked is left only by `Reset` (the spec's own decision D1): without one, no schedule of moves changes anything
of a locked core but the last step's output and what a collaborator has seen of the driver's observations. -/
def Obligations.OnlyResetLeavesLocked : Prop :=
  ∀ (moves : List Move) (s : State), s.run = .locked → Move.reset ∉ moves →
    { runSchedule moves s with out := s.out, ext := s.ext } = s

/-! Registers and memory. -/

/-- The register file: a write of one 8-bit register is read back and leaves the six others, F, SP and PC; a pair is
always the composition of its two bytes; writing a pair writes its high register with `v[15:8]` and its low one with
`v[7:0]` (for AF, masked). -/
def Obligations.PairsAreComposedOfTheirBytes : Prop :=
  (∀ (s : State) (r r' : R8) (v : Byte), (s.setR8 r v).getR8 r' = if r' = r then v else s.getR8 r') ∧
  (∀ (s : State) (r : R8) (v : Byte), (s.setR8 r v).f = s.f ∧ (s.setR8 r v).sp = s.sp ∧ (s.setR8 r v).pc = s.pc) ∧
  (∀ s : State, s.af.toNat = 256 * s.a.toNat + s.f.toNat ∧ s.bc.toNat = 256 * s.b.toNat + s.c.toNat ∧
    s.de.toNat = 256 * s.d.toNat + s.e.toNat ∧ s.hl.toNat = 256 * s.h.toNat + s.l.toNat) ∧
  (∀ (s : State) (v : Word) (hi lo : Byte), v.toNat = 256 * hi.toNat + lo.toNat →
    s.setStk .bc v = { s with b := hi, c := lo } ∧ s.setStk .de v = { s with d := hi, e := lo } ∧
    s.setStk .hl v = { s with h := hi, l := lo } ∧ s.setStk .af v = { s with a := hi, f := lo &&& 0xF0#8 } ∧
    s.setR16 .bc v = { s with b := hi, c := lo } ∧ s.setR16 .de v = { s with d := hi, e := lo } ∧
    s.setR16 .hl v = { s with h := hi, l := lo } ∧ s.setR16 .sp v = { s with sp := v })

/-- The flag byte: Z is bit 7, N bit 6, H bit 5, C bit 4, and the low nibble is zero: in every state of the invariant
F is made of its four flags. -/
def Obligations.FlagByteIsZNHCAndFourZeros : Prop :=
  ∀ s : State, s.Inv → s.f = flagByte s.flagZ s.flagN s.flagH s.flagC

/-- `MemRead(addr, 1)` region by region: ROM, working RAM, echo RAM and high RAM give the cell's byte and change
nothing; an external region gives the port's answer. That the unusable gap 0xFEA0 to 0xFEFF is external is the
spec's own inference (D17); that a collaborator's answer is a free value is its decision D9. -/
def Obligations.ReadsFollowTheRoutersTable : Prop :=
  ∀ (s : State) (a : Word),
    (a.toNat < 0x8000 → memRead s a = (Memory.get s.mem a.toNat, s)) ∧
    (0xC000 ≤ a.toNat ∧ a.toNat < 0xE000 → memRead s a = (Memory.get s.mem a.toNat, s)) ∧
    (0xE000 ≤ a.toNat ∧ a.toNat < 0xFE00 → memRead s a = (Memory.get s.mem (a.toNat - 0x2000), s)) ∧
    (0xFF80 ≤ a.toNat ∧ a.toNat < 0xFFFF → memRead s a = (Memory.get s.mem a.toNat, s)) ∧
    (isExternal a → s.ext = .absent → memRead s a = (0xFF#8, s)) ∧
    (isExternal a → ∀ hist, s.ext = .attached hist →
      memRead s a = (Config.extAnswer hist a,
        { s with ext := .attached (.read a (Config.extAnswer hist a) :: hist) }))

/-- `MemWrite(addr, 1, v)` region by region: ROM and an absent port drop the write, a RAM address writes its one
cell, an attached port is handed the write. Writing a cell changes that cell and no other. What an absent or an
attached port does with a write is the spec's own decision D9 (the list of accesses that an attached port keeps is
the model's DESIGN CHOICE of notes/assumptions/3.md); that the unusable gap 0xFEA0 to 0xFEFF is external is the
spec's own inference (D17; notes/assumptions/19.md). -/
def Obligations.WritesFollowTheRoutersTable : Prop :=
  ∀ (s : State) (a : Word) (v : Byte),
    (a.toNat < 0x8000 → memWrite s a v = s) ∧
    (0xC000 ≤ a.toNat ∧ a.toNat < 0xE000 → memWrite s a v = { s with mem := Memory.set s.mem a.toNat v }) ∧
    (0xE000 ≤ a.toNat ∧ a.toNat < 0xFE00 → memWrite s a v = { s with mem := Memory.set s.mem (a.toNat - 0x2000) v }) ∧
    (0xFF80 ≤ a.toNat ∧ a.toNat < 0xFFFF → memWrite s a v = { s with mem := Memory.set s.mem a.toNat v }) ∧
    (isExternal a → s.ext = .absent → memWrite s a v = s) ∧
    (isExternal a → ∀ hist, s.ext = .attached hist → memWrite s a v = { s with ext := .attached (.write a v :: hist) }) ∧
    (s.Inv → ∀ k k', Memory.get (Memory.set s.mem k v) k' = if k' = k then v else Memory.get s.mem k')

/-- RAM keeps what is written: a byte written to an address of working, echo or high RAM is what the next read there
gives, and every byte of another cell reads as before. -/
def Obligations.ReadAfterWriteGivesTheByteWritten : Prop :=
  ∀ (s : State) (a : Word) (v : Byte), s.Inv → inRam a →
    peek (memWrite s a v) a = v ∧
    ∀ b : Word, ¬ isExternal b → route b ≠ route a → peek (memWrite s a v) b = peek s b

/-- Echo RAM: an address in 0xE000 to 0xFDFF names the same cell as the address 0x2000 below it, for reads and for
writes through either; the last 512 bytes of working RAM have no second address. -/
def Obligations.EchoRamNamesTheCellsOfWorkingRam : Prop :=
  ∀ (s : State) (a : Word) (v : Byte),
    (0xE000 ≤ a.toNat → a.toNat < 0xFE00 →
      memRead s a = memRead s (a - 0x2000#16) ∧ memWrite s a v = memWrite s (a - 0x2000#16) v ∧
      (s.Inv → peek (memWrite s a v) (a - 0x2000#16) = v ∧ peek (memWrite s (a - 0x2000#16) v) a = v)) ∧
    (0xDE00 ≤ a.toNat → a.toNat < 0xE000 → ∀ b, b ≠ a → peek (memWrite s a v) b = peek s b)

/-! The 8-bit loads. -/

/-- `LD r8,r8'` for all 49 pairs of registers, and `LD r8,n8` and `LD r8,(HL)` for all seven; when the destination is H or
L the old HL addresses the read. -/
def Obligations.LdLoadsARegister : Prop :=
  ∀ (r r' : R8) (n : Byte) (s : State),
    EncodedAs (Sel.ld (.reg r) (.reg r')) [op (0x40 + 8 * r.code + r'.code)] ∧
    exec (Sel.ld (.reg r) (.reg r')) s = .next (ends (s.setR8 r (s.getR8 r')) 1 1) ∧
    EncodedAs (Sel.ldN8 n (.reg r)) [op (0x06 + 8 * r.code), n] ∧
    exec (Sel.ldN8 n (.reg r)) s = .next (ends (s.setR8 r n) 2 2) ∧
    EncodedAs (Sel.ld (.reg r) .atHL) [op (0x46 + 8 * r.code)] ∧
    exec (Sel.ld (.reg r) .atHL) s = .next (ends ((memRead s s.hl).2.setR8 r (memRead s s.hl).1) 1 2)

/-- `LD (HL),r8` for all seven registers and `LD (HL),n8`. -/
def Obligations.LdStoresARegisterOrAnImmediateAtHL : Prop :=
  ∀ (r : R8) (n : Byte) (s : State),
    EncodedAs (Sel.ld .atHL (.reg r)) [op (0x70 + r.code)] ∧
    exec (Sel.ld .atHL (.reg r)) s = .next (ends (memWrite s s.hl (s.getR8 r)) 1 2) ∧
    EncodedAs (.ldMemHLN8 n) [0x36#8, n] ∧
    exec (.ldMemHLN8 n) s = .next (ends (memWrite s s.hl n) 2 3)

/-- The loads and the stores of A at BC, DE, a 16-bit address, and the high page at an offset byte or C. -/
def Obligations.AccumulatorLoadsAndStoresUseTheirAddress : Prop :=
  (∀ s : State, EncodedAs .ldAMemBC [0x0A#8] ∧
    exec .ldAMemBC s = .next (ends { (memRead s s.bc).2 with a := (memRead s s.bc).1 } 1 2)) ∧
  (∀ s : State, EncodedAs .ldAMemDE [0x1A#8] ∧
    exec .ldAMemDE s = .next (ends { (memRead s s.de).2 with a := (memRead s s.de).1 } 1 2)) ∧
  (∀ (a : Word) (s : State), EncodedAs (.ldAMemA16 a) [0xFA#8, lo8 a, hi8 a] ∧
    exec (.ldAMemA16 a) s = .next (ends { (memRead s a).2 with a := (memRead s a).1 } 3 4)) ∧
  (∀ (n : Byte) (s : State), EncodedAs (.ldhAMemA8 n) [0xF0#8, n] ∧
    exec (.ldhAMemA8 n) s =
      .next (ends { (memRead s (op 0xFF ++ n)).2 with a := (memRead s (op 0xFF ++ n)).1 } 2 3)) ∧
  (∀ s : State, EncodedAs .ldhAMemC [0xF2#8] ∧
    exec .ldhAMemC s =
      .next (ends { (memRead s (op 0xFF ++ s.c)).2 with a := (memRead s (op 0xFF ++ s.c)).1 } 1 2)) ∧
  (∀ s : State, EncodedAs .ldMemBCA [0x02#8] ∧ exec .ldMemBCA s = .next (ends (memWrite s s.bc s.a) 1 2)) ∧
  (∀ s : State, EncodedAs .ldMemDEA [0x12#8] ∧ exec .ldMemDEA s = .next (ends (memWrite s s.de s.a) 1 2)) ∧
  (∀ (a : Word) (s : State), EncodedAs (.ldMemA16A a) [0xEA#8, lo8 a, hi8 a] ∧
    exec (.ldMemA16A a) s = .next (ends (memWrite s a s.a) 3 4)) ∧
  (∀ (n : Byte) (s : State), EncodedAs (.ldhMemA8A n) [0xE0#8, n] ∧
    exec (.ldhMemA8A n) s = .next (ends (memWrite s (op 0xFF ++ n) s.a) 2 3)) ∧
  (∀ s : State, EncodedAs .ldhMemCA [0xE2#8] ∧
    exec .ldhMemCA s = .next (ends (memWrite s (op 0xFF ++ s.c) s.a) 1 2))

/-- The loads and stores of A through HL that then move HL by one, wrapping; the old HL is the address. -/
def Obligations.HLMovesAfterTheIncrementingAndDecrementingAccesses : Prop :=
  ∀ s : State,
    EncodedAs .ldMemHLIncA [0x22#8] ∧
    exec .ldMemHLIncA s = .next (ends ((memWrite s s.hl s.a).setR16 .hl (s.hl + 1#16)) 1 2) ∧
    EncodedAs .ldMemHLDecA [0x32#8] ∧
    exec .ldMemHLDecA s = .next (ends ((memWrite s s.hl s.a).setR16 .hl (s.hl - 1#16)) 1 2) ∧
    EncodedAs .ldAMemHLInc [0x2A#8] ∧
    exec .ldAMemHLInc s =
      .next (ends (State.setR16 { (memRead s s.hl).2 with a := (memRead s s.hl).1 } .hl (s.hl + 1#16)) 1 2) ∧
    EncodedAs .ldAMemHLDec [0x3A#8] ∧
    exec .ldAMemHLDec s =
      .next (ends (State.setR16 { (memRead s s.hl).2 with a := (memRead s s.hl).1 } .hl (s.hl - 1#16)) 1 2)

/-! The 16-bit loads and the stack. -/

/-- `LD r16,n16` for BC, DE, HL and SP; `LD SP,HL`; and `LD (a16),SP`, which stores the low byte of SP at the address,
then the high byte at the address after it, wrapping. -/
def Obligations.LdSetsAPairOrSPAndStoresSPLittleEndian : Prop :=
  (∀ (p : R16) (n : Word) (s : State),
    EncodedAs (Sel.ldN16 n p) [op (0x01 + 16 * p.code), lo8 n, hi8 n] ∧
    exec (Sel.ldN16 n p) s = .next (ends (s.setR16 p n) 3 3)) ∧
  (∀ s : State, EncodedAs .ldSPHL [0xF9#8] ∧ exec .ldSPHL s = .next (ends { s with sp := s.hl } 1 2)) ∧
  (∀ (a : Word) (s : State),
    EncodedAs (.ldMemA16SP a) [0x08#8, lo8 a, hi8 a] ∧
    exec (.ldMemA16SP a) s =
      .next (ends (memWrite (memWrite s a (s.sp.extractLsb' 0 8)) (a + 1#16) (s.sp.extractLsb' 8 8)) 3 5))

/-- `LD HL,SP+e8` and `ADD SP,e8`: a 16-bit wrapping sum with the sign-extended byte, Z and N cleared, H and C from the
unsigned sum of SP's low byte and the raw operand byte. -/
def Obligations.SignedOffsetsTakeTheirFlagsFromTheLowByte : Prop :=
  ∀ (e : Byte) (s : State),
    EncodedAs (.ldHLSPE8 e) [0xF8#8, e] ∧
    exec (.ldHLSPE8 e) s =
      .next (ends (flags (s.setR16 .hl (BitVec.ofNat 16 (s.sp.toNat + sextNat e))) false false
        (decide (s.sp.toNat % 16 + e.toNat % 16 > 0xF)) (decide (s.sp.toNat % 256 + e.toNat > 0xFF))) 2 3) ∧
    EncodedAs (.addSPE8 e) [0xE8#8, e] ∧
    exec (.addSPE8 e) s =
      .next (ends (flags { s with sp := BitVec.ofNat 16 (s.sp.toNat + sextNat e) } false false
        (decide (s.sp.toNat % 16 + e.toNat % 16 > 0xF)) (decide (s.sp.toNat % 256 + e.toNat > 0xFF))) 2 4)

/-- `PUSH` of BC, DE, HL and AF: the high register at old SP minus 1, then the low one at old SP minus 2. -/
def Obligations.PushStoresTheHighByteFirst : Prop :=
  ∀ (p : R16Stk) (s : State),
    EncodedAs (Sel.push p) [op (0xC5 + 16 * p.code)] ∧
    exec (Sel.push p) s = .next (ends (pushed s (s.getStk p)) 1 4)

/-- `POP` of BC, DE and HL, and `POP AF`, which masks the low byte into F: the low byte is read at SP, the high byte at
SP plus 1, SP ends 2 higher. -/
def Obligations.PopReadsTheLowByteFirst : Prop :=
  (∀ (p : R16Stk) (s : State), p ≠ .af →
    EncodedAs (Sel.pop p) [op (0xC1 + 16 * p.code)] ∧
    exec (Sel.pop p) s = .next (ends ((popped s).setStk p (popValue s)) 1 3)) ∧
  (∀ s : State, EncodedAs .popAF [0xF1#8] ∧
    exec .popAF s = .next (ends { popped s with a := (popHigh s).1, f := (popLow s).1 &&& 0xF0#8 } 1 3))

/-- The stack round trip (an inference the spec marks as derived): with the two stack bytes in RAM, a `PUSH`
followed by a `POP` of any pair leaves that pair equal to the pushed value (for AF masked, which changes nothing of
a pushed AF) and SP as it was. -/
def Obligations.PushThenPopRoundTrips : Prop :=
  ∀ (p q : R16Stk) (s t u : State), s.Inv → inRam (s.sp - 1#16) → inRam (s.sp - 2#16) →
    exec (Sel.push p) s = .next t → exec (Sel.pop q) t = .next u →
    u.getStk q = (if q = .af then s.getStk p &&& 0xFFF0#16 else s.getStk p) ∧
    (p = .af → u.getStk q = s.getStk p) ∧ u.sp = s.sp

/-! 8-bit arithmetic and logic. -/

/-- `ADD` and `ADC` in their three operand forms: the sum computed without truncation. -/
def Obligations.AddAndAdcGiveTheSumAndItsFlags : Prop :=
  ∀ (f : AluOp) (r : R8) (n : Byte) (s : State), f = .add ∨ f = .adc →
    let after := fun (s' : State) (v : Byte) (length cycles : Nat) =>
      let c := if f = .adc then s'.flagC.toNat else 0
      let sum := s'.a.toNat + v.toNat + c
      ends (flags { s' with a := BitVec.ofNat 8 sum } (decide (sum % 256 = 0)) false
        (decide (s'.a.toNat % 16 + v.toNat % 16 + c > 0xF)) (decide (sum > 0xFF))) length cycles
    EncodedAs (Sel.alu f (.reg r)) [op (0x80 + 8 * f.code + r.code)] ∧
    exec (Sel.alu f (.reg r)) s = .next (after s (s.getR8 r) 1 1) ∧
    EncodedAs (Sel.alu f .atHL) [op (0x86 + 8 * f.code)] ∧
    exec (Sel.alu f .atHL) s = .next (after (memRead s s.hl).2 (memRead s s.hl).1 1 2) ∧
    EncodedAs (Sel.aluN8 n f) [op (0xC6 + 8 * f.code), n] ∧
    exec (Sel.aluN8 n f) s = .next (after s n 2 2)

/-- `SUB` and `SBC` in their three operand forms: the difference modulo 256 and its borrows. -/
def Obligations.SubAndSbcGiveTheDifferenceAndItsFlags : Prop :=
  ∀ (f : AluOp) (r : R8) (n : Byte) (s : State), f = .sub ∨ f = .sbc →
    let after := fun (s' : State) (v : Byte) (length cycles : Nat) =>
      let c := if f = .sbc then s'.flagC.toNat else 0
      let diff := s'.a.toNat + 512 - v.toNat - c
      ends (flags { s' with a := BitVec.ofNat 8 diff } (decide (diff % 256 = 0)) true
        (decide (s'.a.toNat % 16 < v.toNat % 16 + c)) (decide (s'.a.toNat < v.toNat + c))) length cycles
    EncodedAs (Sel.alu f (.reg r)) [op (0x80 + 8 * f.code + r.code)] ∧
    exec (Sel.alu f (.reg r)) s = .next (after s (s.getR8 r) 1 1) ∧
    EncodedAs (Sel.alu f .atHL) [op (0x86 + 8 * f.code)] ∧
    exec (Sel.alu f .atHL) s = .next (after (memRead s s.hl).2 (memRead s s.hl).1 1 2) ∧
    EncodedAs (Sel.aluN8 n f) [op (0xC6 + 8 * f.code), n] ∧
    exec (Sel.aluN8 n f) s = .next (after s n 2 2)

/-- `AND`, `XOR` and `OR` in their three operand forms: Z from the result, N and C cleared, H set by `AND` only. -/
def Obligations.LogicOperationsGiveTheirResultAndFlags : Prop :=
  ∀ (f : AluOp) (r : R8) (n : Byte) (s : State), f = .and ∨ f = .xor ∨ f = .or →
    let after := fun (s' : State) (v : Byte) (length cycles : Nat) =>
      let res := if f = .and then s'.a &&& v else if f = .xor then s'.a ^^^ v else s'.a ||| v
      ends (flags { s' with a := res } (decide (res.toNat = 0)) false (decide (f = .and)) false) length cycles
    EncodedAs (Sel.alu f (.reg r)) [op (0x80 + 8 * f.code + r.code)] ∧
    exec (Sel.alu f (.reg r)) s = .next (after s (s.getR8 r) 1 1) ∧
    EncodedAs (Sel.alu f .atHL) [op (0x86 + 8 * f.code)] ∧
    exec (Sel.alu f .atHL) s = .next (after (memRead s s.hl).2 (memRead s s.hl).1 1 2) ∧
    EncodedAs (Sel.aluN8 n f) [op (0xC6 + 8 * f.code), n] ∧
    exec (Sel.aluN8 n f) s = .next (after s n 2 2)

/-- `CP` in its three operand forms: the flags of the subtraction, A unchanged. -/
def Obligations.CompareWritesTheFlagsOfTheSubtractionOnly : Prop :=
  ∀ (r : R8) (n : Byte) (s : State),
    let after := fun (s' : State) (v : Byte) (length cycles : Nat) =>
      ends (flags s' (decide (s'.a = v)) true (decide (s'.a.toNat % 16 < v.toNat % 16))
        (decide (s'.a.toNat < v.toNat))) length cycles
    EncodedAs (Sel.alu .cp (.reg r)) [op (0xB8 + r.code)] ∧
    exec (Sel.alu .cp (.reg r)) s = .next (after s (s.getR8 r) 1 1) ∧
    EncodedAs .cpAMemHL [0xBE#8] ∧
    exec .cpAMemHL s = .next (after (memRead s s.hl).2 (memRead s s.hl).1 1 2) ∧
    EncodedAs (.cpAN8 n) [0xFE#8, n] ∧
    exec (.cpAN8 n) s = .next (after s n 2 2)

/-- `INC` and `DEC` of each of the seven registers and of the byte at HL, which is read and written back at the same
address: the result wraps, C is not written. -/
def Obligations.IncAndDecOfAByteKeepC : Prop :=
  (∀ (r : R8) (s : State),
    let v := (s.getR8 r).toNat
    EncodedAs (Sel.inc8 (.reg r)) [op (0x04 + 8 * r.code)] ∧
    exec (Sel.inc8 (.reg r)) s =
      .next (ends (flags (s.setR8 r (BitVec.ofNat 8 (v + 1))) (decide (v = 0xFF)) false (decide (v % 16 = 0xF))
        s.flagC) 1 1) ∧
    EncodedAs (Sel.dec8 (.reg r)) [op (0x05 + 8 * r.code)] ∧
    exec (Sel.dec8 (.reg r)) s =
      .next (ends (flags (s.setR8 r (BitVec.ofNat 8 (v + 255))) (decide (v = 1)) true (decide (v % 16 = 0))
        s.flagC) 1 1)) ∧
  (∀ s : State,
    let v := (memRead s s.hl).1.toNat
    let s' := (memRead s s.hl).2
    EncodedAs .incMemHL [0x34#8] ∧
    exec .incMemHL s =
      .next (ends (flags (memWrite s' s.hl (BitVec.ofNat 8 (v + 1))) (decide (v = 0xFF)) false (decide (v % 16 = 0xF))
        s.flagC) 1 3) ∧
    EncodedAs .decMemHL [0x35#8] ∧
    exec .decMemHL s =
      .next (ends (flags (memWrite s' s.hl (BitVec.ofNat 8 (v + 255))) (decide (v = 1)) true (decide (v % 16 = 0))
        s.flagC) 1 3))

/-- `DAA` in both branches of N, for every A and every value of the flags. -/
def Obligations.DaaAdjustsAfterAdditionAndSubtraction : Prop :=
  ∀ s : State,
    let a := s.a.toNat
    let low := if s.flagN then s.flagH else s.flagH || decide (a % 16 > 9)
    let c := if s.flagN then s.flagC else s.flagC || decide (a > 0x99)
    let adj := (if low then 0x06 else 0) + (if c then 0x60 else 0)
    let r : Byte := BitVec.ofNat 8 (if s.flagN then a + 256 - adj else a + adj)
    EncodedAs .daa [0x27#8] ∧
    exec .daa s = .next (ends (flags { s with a := r } (decide (r.toNat = 0)) s.flagN false c) 1 1)

/-- `CPL`, `SCF` and `CCF`: A complemented with N and H set; C set; C complemented; the flags not named are kept. -/
def Obligations.CplScfCcfWriteWhatTheirRulesName : Prop :=
  ∀ s : State,
    EncodedAs .cpl [0x2F#8] ∧
    exec .cpl s = .next (ends (flags { s with a := s.a ^^^ 0xFF#8 } s.flagZ true true s.flagC) 1 1) ∧
    EncodedAs .scf [0x37#8] ∧
    exec .scf s = .next (ends (flags s s.flagZ false false true) 1 1) ∧
    EncodedAs .ccf [0x3F#8] ∧
    exec .ccf s = .next (ends (flags s s.flagZ false false (decide (s.flagC = false))) 1 1)

/-! 16-bit arithmetic. -/

/-- `ADD HL,r16` for BC, DE, HL and SP: H is the carry out of bit 11, C that out of bit 15, Z is not written. -/
def Obligations.AddToHLTakesCarriesFromBits11And15 : Prop :=
  ∀ (p : R16) (s : State),
    let x := s.hl.toNat
    let y := (s.getR16 p).toNat
    EncodedAs (Sel.addHL p) [op (0x09 + 16 * p.code)] ∧
    exec (Sel.addHL p) s =
      .next (ends (flags (s.setR16 .hl (BitVec.ofNat 16 (x + y))) s.flagZ false
        (decide (x % 4096 + y % 4096 > 0xFFF)) (decide (x + y > 0xFFFF))) 1 2)

/-- `INC r16` and `DEC r16` for BC, DE, HL and SP: wrapping, no flag written. -/
def Obligations.IncAndDecOfAPairWrapAndWriteNoFlag : Prop :=
  ∀ (p : R16) (s : State),
    EncodedAs (Sel.inc16 p) [op (0x03 + 16 * p.code)] ∧
    exec (Sel.inc16 p) s = .next (ends (s.setR16 p (BitVec.ofNat 16 ((s.getR16 p).toNat + 1))) 1 2) ∧
    EncodedAs (Sel.dec16 p) [op (0x0B + 16 * p.code)] ∧
    exec (Sel.dec16 p) s = .next (ends (s.setR16 p (BitVec.ofNat 16 ((s.getR16 p).toNat + 65535))) 1 2)

/-! Rotates, shifts, bit operations. -/

/-- `RLCA`, `RRCA`, `RLA`, `RRA`: the one-bit functions on A, with Z cleared whatever the result. -/
def Obligations.AccumulatorRotatesClearZ : Prop :=
  ∀ s : State,
    let after := fun (f : RotOp) =>
      ends (flags { s with a := BitVec.ofNat 8 (rotNat f s.a.toNat s.flagC).1 } false false false
        (rotNat f s.a.toNat s.flagC).2) 1 1
    EncodedAs .rlca [0x07#8] ∧ exec .rlca s = .next (after .rlc) ∧
    EncodedAs .rrca [0x0F#8] ∧ exec .rrca s = .next (after .rrc) ∧
    EncodedAs .rla [0x17#8] ∧ exec .rla s = .next (after .rl) ∧
    EncodedAs .rra [0x1F#8] ∧ exec .rra s = .next (after .rr)

/-- The eight CB-prefixed rotates and shifts on each of the seven registers. -/
def Obligations.RotatesAndShiftsOfARegister : Prop :=
  ∀ (f : RotOp) (r : R8) (s : State),
    let o := rotNat f (s.getR8 r).toNat s.flagC
    EncodedAs (Sel.rot f (.reg r)) [0xCB#8, op (8 * f.code + r.code)] ∧
    exec (Sel.rot f (.reg r)) s =
      .next (ends (flags (s.setR8 r (BitVec.ofNat 8 o.1)) (decide (o.1 = 0)) false false o.2) 2 2)

/-- The eight CB-prefixed rotates and shifts on the byte at HL, which is read and written back at the same address. -/
def Obligations.RotatesAndShiftsOfTheByteAtHL : Prop :=
  ∀ (f : RotOp) (s : State),
    let o := rotNat f (memRead s s.hl).1.toNat s.flagC
    EncodedAs (Sel.rot f .atHL) [0xCB#8, op (8 * f.code + 6)] ∧
    exec (Sel.rot f .atHL) s =
      .next (ends (flags (memWrite (memRead s s.hl).2 s.hl (BitVec.ofNat 8 o.1)) (decide (o.1 = 0)) false false o.2)
        2 4)

/-- `BIT b,r8` and `BIT b,(HL)`: Z is the complement of the tested bit, N cleared, H set, C kept; nothing else is
written. -/
def Obligations.BitTestsOneBit : Prop :=
  ∀ (b : Fin 8) (r : R8) (s : State),
    EncodedAs (Sel.bit b (.reg r)) [0xCB#8, op (0x40 + 8 * b.val + r.code)] ∧
    exec (Sel.bit b (.reg r)) s =
      .next (ends (flags s (decide ((s.getR8 r).toNat / 2 ^ b.val % 2 = 0)) false true s.flagC) 2 2) ∧
    EncodedAs (Sel.bit b .atHL) [0xCB#8, op (0x46 + 8 * b.val)] ∧
    exec (Sel.bit b .atHL) s =
      .next (ends (flags (memRead s s.hl).2 (decide ((memRead s s.hl).1.toNat / 2 ^ b.val % 2 = 0)) false true s.flagC)
        2 3)

/-- `RES` and `SET` of one bit of a register, and of the byte at HL, which is read and written back also when that
changes nothing; no flag is written. -/
def Obligations.ResAndSetChangeOneBit : Prop :=
  ∀ (b : Fin 8) (r : R8) (s : State),
    EncodedAs (Sel.res b (.reg r)) [0xCB#8, op (0x80 + 8 * b.val + r.code)] ∧
    exec (Sel.res b (.reg r)) s = .next (ends (s.setR8 r (s.getR8 r &&& ~~~BitVec.twoPow 8 b.val)) 2 2) ∧
    EncodedAs (Sel.set b (.reg r)) [0xCB#8, op (0xC0 + 8 * b.val + r.code)] ∧
    exec (Sel.set b (.reg r)) s = .next (ends (s.setR8 r (s.getR8 r ||| BitVec.twoPow 8 b.val)) 2 2) ∧
    EncodedAs (Sel.res b .atHL) [0xCB#8, op (0x86 + 8 * b.val)] ∧
    exec (Sel.res b .atHL) s =
      .next (ends (memWrite (memRead s s.hl).2 s.hl ((memRead s s.hl).1 &&& ~~~BitVec.twoPow 8 b.val)) 2 4) ∧
    EncodedAs (Sel.set b .atHL) [0xCB#8, op (0xC6 + 8 * b.val)] ∧
    exec (Sel.set b .atHL) s =
      .next (ends (memWrite (memRead s s.hl).2 s.hl ((memRead s s.hl).1 ||| BitVec.twoPow 8 b.val)) 2 4)

/-! Control flow. -/

/-- `JP a16`, `JP HL` and `JR e8`: the target is used as is; a relative target is counted from PC + 2 and wraps. -/
def Obligations.JumpsGoToTheirTarget : Prop :=
  ∀ (a : Word) (e : Byte) (s : State),
    EncodedAs (.jpA16 a) [0xC3#8, lo8 a, hi8 a] ∧ exec (.jpA16 a) s = .next (endsAt s a 3 4) ∧
    EncodedAs .jpHL [0xE9#8] ∧ exec .jpHL s = .next (endsAt s s.hl 1 1) ∧
    EncodedAs (.jrE8 e) [0x18#8, e] ∧
    exec (.jrE8 e) s = .next (endsAt s (BitVec.ofNat 16 (s.pc.toNat + 2 + sextNat e)) 2 3)

/-- The truth of a condition code, and the conditional jumps: taken or not, the whole instruction is passed and only
the target and the cycles differ. -/
def Obligations.ConditionalJumpsFollowTheirFlag : Prop :=
  ∀ (cc : Cond) (a : Word) (e : Byte) (s : State),
    let taken := match cc with
      | .nz => s.flagZ = false
      | .z => s.flagZ = true
      | .nc => s.flagC = false
      | .c => s.flagC = true
    EncodedAs (Sel.jpCc a cc) [op (0xC2 + 8 * cc.code), lo8 a, hi8 a] ∧
    (taken → exec (Sel.jpCc a cc) s = .next (endsAt s a 3 4)) ∧
    (¬ taken → exec (Sel.jpCc a cc) s = .next (ends s 3 3)) ∧
    EncodedAs (Sel.jrCc e cc) [op (0x20 + 8 * cc.code), e] ∧
    (taken → exec (Sel.jrCc e cc) s = .next (endsAt s (BitVec.ofNat 16 (s.pc.toNat + 2 + sextNat e)) 2 3)) ∧
    (¬ taken → exec (Sel.jrCc e cc) s = .next (ends s 2 2))

/-- `CALL a16`, `CALL cc,a16` and `RST`: the address of the byte after the instruction is pushed and PC becomes the
target; a call not taken has no stack access. -/
def Obligations.CallsPushTheReturnAddress : Prop :=
  (∀ (a : Word) (s : State), EncodedAs (.callA16 a) [0xCD#8, lo8 a, hi8 a] ∧
    exec (.callA16 a) s = .next (endsAt (pushed s (s.pc + 3#16)) a 3 6)) ∧
  (∀ (cc : Cond) (a : Word) (s : State), EncodedAs (Sel.callCc a cc) [op (0xC4 + 8 * cc.code), lo8 a, hi8 a] ∧
    (s.cond cc = true → exec (Sel.callCc a cc) s = .next (endsAt (pushed s (s.pc + 3#16)) a 3 6)) ∧
    (s.cond cc = false → exec (Sel.callCc a cc) s = .next (ends s 3 3))) ∧
  (∀ (t : Fin 8) (s : State), EncodedAs (Sel.rst t) [op (0xC7 + 8 * t.val)] ∧
    exec (Sel.rst t) s = .next (endsAt (pushed s (s.pc + 1#16)) (BitVec.ofNat 16 (8 * t.val)) 1 4))

/-- `RET` and `RET cc`: PC is popped; a return not taken has no stack access. -/
def Obligations.ReturnsPopThePC : Prop :=
  (∀ s : State, EncodedAs .ret [0xC9#8] ∧ exec .ret s = .next (endsAt (popped s) (popValue s) 1 4)) ∧
  (∀ (cc : Cond) (s : State), EncodedAs (Sel.retCc cc) [op (0xC0 + 8 * cc.code)] ∧
    (s.cond cc = true → exec (Sel.retCc cc) s = .next (endsAt (popped s) (popValue s) 1 5)) ∧
    (s.cond cc = false → exec (Sel.retCc cc) s = .next (ends s 1 2)))

/-- A call and its return: with the stack in RAM, `CALL` or `RST` followed at the target by `RET` comes back to the
byte after the call with SP restored. -/
def Obligations.ReturnComesBackBehindTheCall : Prop :=
  ∀ (s t u : State) (i : Instr) (length : Nat), s.Inv → inRam (s.sp - 1#16) → inRam (s.sp - 2#16) →
    ((∃ a, i = .callA16 a) ∧ length = 3 ∨ (∃ v, i = Sel.rst v) ∧ length = 1) →
    exec i s = .next t → exec .ret t = .next u →
    u.pc = s.pc + BitVec.ofNat 16 length ∧ u.sp = s.sp

/-! System instructions, illegal bytes, the driver. -/

/-- `NOP`, `HALT`, `STOP`, `DI`, `EI` and `RETI`: PC passes the instruction (and is popped by `RETI`); the run state
becomes Halted or Stopped; the second byte of `STOP` is passed over (the spec's own decision D5); `DI` clears IME and
IME_pending (decision D6); `EI` sets IME_pending and leaves IME (D18); `RETI` sets IME at once and leaves IME_pending
(D13). -/
def Obligations.SystemInstructionsChangeRunStateAndIme : Prop :=
  ∀ (n : Byte) (s : State),
    EncodedAs .nop [0x00#8] ∧ exec .nop s = .next (ends s 1 1) ∧
    EncodedAs .halt [0x76#8] ∧ exec .halt s = .next (ends { s with run := .halted } 1 1) ∧
    EncodedAs (.stop n) [0x10#8, n] ∧ exec (.stop n) s = .next (ends { s with run := .stopped } 2 1) ∧
    EncodedAs .di [0xF3#8] ∧ exec .di s = .next (ends { s with ime := false, imePending := false } 1 1) ∧
    EncodedAs .ei [0xFB#8] ∧ exec .ei s = .next (ends { s with imePending := true } 1 1) ∧
    EncodedAs .reti [0xD9#8] ∧ exec .reti s = .next { endsAt (popped s) (popValue s) 1 4 with ime := true }

/-- The spec's own decision D1: an illegal byte at PC locks the core and is reported; PC, registers, memory, IME and
IME_pending stay, the step hands back length 0 and cycles 1, and the bytes after it are not fetched. Afterwards a
step does nothing, `Wake` and `DeliverInterrupt` are refused. -/
def Obligations.IllegalBytesLockTheCore : Prop :=
  (∀ (i : Instr) (b : Byte) (s : State), i.illegalByte = some b →
    EncodedAs i [b] ∧ exec i s = .next { s with run := .locked, out := ⟨0, 1, some (.invalidOpcode b)⟩ }) ∧
  (∀ (s : State) (b : Byte), s.run = .normal →
    b ∈ [0xD3#8, 0xDB#8, 0xDD#8, 0xE3#8, 0xE4#8, 0xEB#8, 0xEC#8, 0xED#8, 0xF4#8, 0xFC#8, 0xFD#8] →
    peek s s.pc = b →
    step s = .next { (memRead s s.pc).2 with run := .locked, out := ⟨0, 1, some (.invalidOpcode b)⟩ }) ∧
  (∀ (s : State) (vec : Word), s.run = .locked →
    step s = .next { s with out := ⟨0, 1, none⟩ } ∧ driverMove .wake s = .refused .wakeNotPermitted ∧
    driverMove (.deliverInterrupt vec) s = .refused .deliveryNotPermitted)

/-- Interrupt delivery, the spec's own decision D3: permitted exactly with IME 1 in Normal or Halted; IME and
IME_pending are cleared, the core runs, PC is pushed and becomes the vector; nothing else is saved or changed.
Otherwise the move is refused. -/
def Obligations.DeliverInterruptPushesPCAndClearsIme : Prop :=
  ∀ (s : State) (vec : Word),
    (s.ime = true ∧ (s.run = .normal ∨ s.run = .halted) →
      driverMove (.deliverInterrupt vec) s =
        .next { pushed s s.pc with ime := false, imePending := false, run := .normal, pc := vec }) ∧
    (¬ (s.ime = true ∧ (s.run = .normal ∨ s.run = .halted)) →
      driverMove (.deliverInterrupt vec) s = .refused .deliveryNotPermitted ∧
      afterMove (.deliverInterrupt vec) s = s)

/-- `Wake`, the spec's own decisions D3 and D5: Halted or Stopped becomes Normal and nothing else changes; in Normal
and Locked it is refused. -/
def Obligations.WakeMakesAWaitingCoreRun : Prop :=
  ∀ s : State,
    (s.run = .halted ∨ s.run = .stopped → driverMove .wake s = .next { s with run := .normal }) ∧
    (s.run = .normal ∨ s.run = .locked → driverMove .wake s = .refused .wakeNotPermitted ∧ afterMove .wake s = s)

/-- `Reset`, the spec's own decisions D4 and D20: permitted in every state; the registers take the reset parameters
(F with its low nibble zero), the core runs with interrupts off, and both RAMs, the ROM image and the collaborator
stay. -/
def Obligations.ResetLoadsTheParametersAndKeepsMemory : Prop :=
  ∀ s : State, ∃ t, driverMove .reset s = .next t ∧
    t.run = .normal ∧ t.ime = false ∧ t.imePending = false ∧ t.pc = s.params.pc ∧ t.sp = s.params.sp ∧
    t.a = s.params.a ∧ t.b = s.params.b ∧ t.c = s.params.c ∧ t.d = s.params.d ∧ t.e = s.params.e ∧
    t.h = s.params.h ∧ t.l = s.params.l ∧ t.f = s.params.f &&& 0xF0#8 ∧
    t.mem = s.mem ∧ t.ext = s.ext ∧ t.params = s.params
end

