-- ==== Sys2Proof/Laws/Bits.lean ====
section
/-! SUPPORT. The laws of the byte and word helpers. -/

namespace Sys2Proof

@[simp] theorem toNat_hi8 (w : Word) : (hi8 w).toNat = w.toNat / 256 := by
  have := w.isLt
  simp only [hi8, BitVec.extractLsb'_toNat, Nat.shiftRight_eq_div_pow]
  omega

@[simp] theorem toNat_lo8 (w : Word) : (lo8 w).toNat = w.toNat % 256 := by
  simp only [lo8, BitVec.extractLsb'_toNat, Nat.shiftRight_zero]

@[simp] theorem toNat_pair16 (hi lo : Byte) : (pair16 hi lo).toNat = 256 * hi.toNat + lo.toNat := by
  have := lo.isLt
  simp only [pair16, BitVec.toNat_append]
  rw [← Nat.shiftLeft_add_eq_or_of_lt this, Nat.shiftLeft_eq]
  omega

@[simp] theorem pair16_hi8_lo8 (w : Word) : pair16 (hi8 w) (lo8 w) = w := by
  apply BitVec.eq_of_toNat_eq
  simp only [toNat_pair16, toNat_hi8, toNat_lo8]
  omega

@[simp] theorem hi8_pair16 (hi lo : Byte) : hi8 (pair16 hi lo) = hi := by
  apply BitVec.eq_of_toNat_eq
  have := lo.isLt
  simp only [toNat_pair16, toNat_hi8]
  omega

@[simp] theorem lo8_pair16 (hi lo : Byte) : lo8 (pair16 hi lo) = lo := by
  apply BitVec.eq_of_toNat_eq
  have := lo.isLt
  simp only [toNat_pair16, toNat_lo8]
  omega

/-- A word is determined by its two bytes. -/
theorem eq_pair16 {w : Word} {hi lo : Byte} (h : w.toNat = 256 * hi.toNat + lo.toNat) : w = pair16 hi lo :=
  BitVec.eq_of_toNat_eq (by rw [h, toNat_pair16])

/-- The sign extension adds 0xFF00 to a byte with bit 7 set (spec/43_alu16.md R201). -/
theorem toNat_sext16 (b : Byte) : (sext16 b).toNat = if b.toNat < 0x80 then b.toNat else b.toNat + 0xFF00 := by
  have hb := b.isLt
  simp only [sext16, BitVec.toNat_signExtend, BitVec.msb_eq_decide, BitVec.toNat_setWidth]
  split <;> split <;> simp_all <;> omega

end Sys2Proof
end

