-- ==== Sys2Proof/Laws/Decode.lean ====
section
/-! SUPPORT. The laws of the decoder: the operand fields read back, and what the bytes past an instruction's length
have no say in. -/

namespace Sys2Proof

@[simp] theorem Loc.ofCode_code (l : Loc) : Loc.ofCode l.code = l := by cases l with
  | reg r => cases r <;> rfl
  | atHL => rfl

@[simp] theorem R16.ofCode_code (p : R16) : R16.ofCode p.code = p := by cases p <;> rfl
@[simp] theorem R16Stk.ofCode_code (p : R16Stk) : R16Stk.ofCode p.code = p := by cases p <;> rfl
@[simp] theorem R16Mem.ofCode_code (m : R16Mem) : R16Mem.ofCode m.code = m := by cases m <;> rfl
@[simp] theorem Cond.ofCode_code (cc : Cond) : Cond.ofCode cc.code = cc := by cases cc <;> rfl
@[simp] theorem AluOp.ofCode_code (f : AluOp) : AluOp.ofCode f.code = f := by cases f <;> rfl
@[simp] theorem RotOp.ofCode_code (f : RotOp) : RotOp.ofCode f.code = f := by cases f <;> rfl

/-- Every instruction has one to three bytes. -/
theorem formatLength_bounds : ∀ b0 : Byte, 1 ≤ formatLength b0 ∧ formatLength b0 ≤ 3 := by decide

/-- A list that begins with enough bytes decodes. -/
theorem decode_cons {b0 : Byte} {rest : List Byte} (h : formatLength b0 - 1 ≤ rest.length) :
    decode (b0 :: rest) =
      .ok (decodeBytes b0 (rest.getD 0 0#8) (rest.getD 1 0#8), rest.drop (formatLength b0 - 1)) := by
  rw [decode, if_neg (by omega)]

/-- What a successful decoding says of the bytes. -/
theorem decode_ok {bytes rest : List Byte} {i : Instr} (h : decode bytes = .ok (i, rest)) :
    ∃ b0 more, bytes = b0 :: more ∧ formatLength b0 - 1 ≤ more.length ∧
      i = decodeBytes b0 (more.getD 0 0#8) (more.getD 1 0#8) ∧ rest = more.drop (formatLength b0 - 1) := by
  cases bytes with
  | nil => exact absurd h (by simp [decode])
  | cons b0 more =>
    by_cases hl : formatLength b0 - 1 ≤ more.length
    · rw [decode_cons hl, Except.ok.injEq, Prod.mk.injEq] at h
      exact ⟨b0, more, rfl, hl, h.1.symm, h.2.symm⟩
    · rw [decode, if_pos (by omega)] at h
      cases h

/-- The fields of a byte (R79), in range. -/
theorem byte_fields (b0 : Byte) :
    ∃ x y z, x < 4 ∧ y < 8 ∧ z < 8 ∧ b0.toNat / 64 = x ∧ b0.toNat / 8 % 8 = y ∧ b0.toNat % 8 = z := by
  have := b0.isLt
  exact ⟨_, _, _, by omega, by omega, by omega, rfl, rfl, rfl⟩

/-- A one-byte instruction's later bytes have no say. -/
theorem decodeBytes_of_length_one {b0 : Byte} (h : formatLength b0 = 1) (b1 b2 c1 c2 : Byte) :
    decodeBytes b0 b1 b2 = decodeBytes b0 c1 c2 := by
  have hcb : b0 ≠ 0xCB#8 := by rintro rfl; exact absurd h (by decide)
  obtain ⟨x, y, z, hx, hy, hz, ex, ey, ez⟩ := byte_fields b0
  simp only [formatLength, ex, ey, ez] at h
  simp only [decodeBytes, if_neg hcb, decodePrimary, ex, ey, ez]
  interval_cases x
  · interval_cases z <;> interval_cases y <;> first | rfl | exact absurd h (by decide)
  · rfl
  · rfl
  · interval_cases z <;> interval_cases y <;> first | rfl | exact absurd h (by decide)

/-- A two-byte instruction's third byte has no say. -/
theorem decodeBytes_of_length_two {b0 : Byte} (h : formatLength b0 = 2) (b1 b2 c2 : Byte) :
    decodeBytes b0 b1 b2 = decodeBytes b0 b1 c2 := by
  by_cases hcb : b0 = 0xCB#8
  · simp only [decodeBytes, if_pos hcb]
  obtain ⟨x, y, z, hx, hy, hz, ex, ey, ez⟩ := byte_fields b0
  simp only [formatLength, ex, ey, ez] at h
  simp only [decodeBytes, if_neg hcb, decodePrimary, ex, ey, ez]
  have hxy : ¬ (x = 3 ∧ y = 1 ∧ z = 3) := by
    rintro ⟨rfl, rfl, rfl⟩
    exact hcb (BitVec.eq_of_toNat_eq (by simp; omega))
  interval_cases x
  · interval_cases z <;> interval_cases y <;> first | rfl | exact absurd h (by decide)
  · rfl
  · rfl
  · interval_cases z <;> interval_cases y <;> first | rfl | exact absurd h (by decide) | simp at hxy

end Sys2Proof
end

