-- ==== Sys2Proof/Laws/State.lean ====
section
/-! SUPPORT. One lemma per field per update, tagged simp, so that no proof unfolds a record update. -/

namespace Sys2Proof.Machine

section
variable (s : State)

@[simp] theorem setR8_f (r : R8) (v : Byte) : (s.setR8 r v).f = s.f := by cases r <;> rfl
@[simp] theorem setR8_sp (r : R8) (v : Byte) : (s.setR8 r v).sp = s.sp := by cases r <;> rfl
@[simp] theorem setR8_pc (r : R8) (v : Byte) : (s.setR8 r v).pc = s.pc := by cases r <;> rfl
@[simp] theorem setR8_run (r : R8) (v : Byte) : (s.setR8 r v).run = s.run := by cases r <;> rfl
@[simp] theorem setR8_ime (r : R8) (v : Byte) : (s.setR8 r v).ime = s.ime := by cases r <;> rfl
@[simp] theorem setR8_imePending (r : R8) (v : Byte) : (s.setR8 r v).imePending = s.imePending := by cases r <;> rfl
@[simp] theorem setR8_mem (r : R8) (v : Byte) : (s.setR8 r v).mem = s.mem := by cases r <;> rfl
@[simp] theorem setR8_ext (r : R8) (v : Byte) : (s.setR8 r v).ext = s.ext := by cases r <;> rfl
@[simp] theorem setR8_params (r : R8) (v : Byte) : (s.setR8 r v).params = s.params := by cases r <;> rfl
@[simp] theorem setR8_out (r : R8) (v : Byte) : (s.setR8 r v).out = s.out := by cases r <;> rfl

@[simp] theorem setF_a (v : Byte) : (s.setF v).a = s.a := rfl
@[simp] theorem setF_b (v : Byte) : (s.setF v).b = s.b := rfl
@[simp] theorem setF_c (v : Byte) : (s.setF v).c = s.c := rfl
@[simp] theorem setF_d (v : Byte) : (s.setF v).d = s.d := rfl
@[simp] theorem setF_e (v : Byte) : (s.setF v).e = s.e := rfl
@[simp] theorem setF_h (v : Byte) : (s.setF v).h = s.h := rfl
@[simp] theorem setF_l (v : Byte) : (s.setF v).l = s.l := rfl
@[simp] theorem setF_sp (v : Byte) : (s.setF v).sp = s.sp := rfl
@[simp] theorem setF_pc (v : Byte) : (s.setF v).pc = s.pc := rfl
@[simp] theorem setF_run (v : Byte) : (s.setF v).run = s.run := rfl
@[simp] theorem setF_ime (v : Byte) : (s.setF v).ime = s.ime := rfl
@[simp] theorem setF_imePending (v : Byte) : (s.setF v).imePending = s.imePending := rfl
@[simp] theorem setF_mem (v : Byte) : (s.setF v).mem = s.mem := rfl
@[simp] theorem setF_ext (v : Byte) : (s.setF v).ext = s.ext := rfl
@[simp] theorem setF_params (v : Byte) : (s.setF v).params = s.params := rfl
@[simp] theorem setF_out (v : Byte) : (s.setF v).out = s.out := rfl

@[simp] theorem setF_f (v : Byte) : (s.setF v).f = v &&& 0xF0#8 := rfl

@[simp] theorem setFlags_a (z n h c : Bool) : (s.setFlags z n h c).a = s.a := rfl
@[simp] theorem setFlags_b (z n h c : Bool) : (s.setFlags z n h c).b = s.b := rfl
@[simp] theorem setFlags_c (z n h c : Bool) : (s.setFlags z n h c).c = s.c := rfl
@[simp] theorem setFlags_d (z n h c : Bool) : (s.setFlags z n h c).d = s.d := rfl
@[simp] theorem setFlags_e (z n h c : Bool) : (s.setFlags z n h c).e = s.e := rfl
@[simp] theorem setFlags_h (z n h c : Bool) : (s.setFlags z n h c).h = s.h := rfl
@[simp] theorem setFlags_l (z n h c : Bool) : (s.setFlags z n h c).l = s.l := rfl
@[simp] theorem setFlags_sp (z n h c : Bool) : (s.setFlags z n h c).sp = s.sp := rfl
@[simp] theorem setFlags_pc (z n h c : Bool) : (s.setFlags z n h c).pc = s.pc := rfl
@[simp] theorem setFlags_run (z n h c : Bool) : (s.setFlags z n h c).run = s.run := rfl
@[simp] theorem setFlags_ime (z n h c : Bool) : (s.setFlags z n h c).ime = s.ime := rfl
@[simp] theorem setFlags_imePending (z n h c : Bool) : (s.setFlags z n h c).imePending = s.imePending := rfl
@[simp] theorem setFlags_mem (z n h c : Bool) : (s.setFlags z n h c).mem = s.mem := rfl
@[simp] theorem setFlags_ext (z n h c : Bool) : (s.setFlags z n h c).ext = s.ext := rfl
@[simp] theorem setFlags_params (z n h c : Bool) : (s.setFlags z n h c).params = s.params := rfl
@[simp] theorem setFlags_out (z n h c : Bool) : (s.setFlags z n h c).out = s.out := rfl

@[simp] theorem setFlags_f (z n h c : Bool) : (s.setFlags z n h c).f = packF z n h c &&& 0xF0#8 := rfl

@[simp] theorem setR16_a (p : R16) (v : Word) : (s.setR16 p v).a = s.a := by cases p <;> rfl
@[simp] theorem setR16_f (p : R16) (v : Word) : (s.setR16 p v).f = s.f := by cases p <;> rfl
@[simp] theorem setR16_pc (p : R16) (v : Word) : (s.setR16 p v).pc = s.pc := by cases p <;> rfl
@[simp] theorem setR16_run (p : R16) (v : Word) : (s.setR16 p v).run = s.run := by cases p <;> rfl
@[simp] theorem setR16_ime (p : R16) (v : Word) : (s.setR16 p v).ime = s.ime := by cases p <;> rfl
@[simp] theorem setR16_imePending (p : R16) (v : Word) : (s.setR16 p v).imePending = s.imePending := by cases p <;> rfl
@[simp] theorem setR16_mem (p : R16) (v : Word) : (s.setR16 p v).mem = s.mem := by cases p <;> rfl
@[simp] theorem setR16_ext (p : R16) (v : Word) : (s.setR16 p v).ext = s.ext := by cases p <;> rfl
@[simp] theorem setR16_params (p : R16) (v : Word) : (s.setR16 p v).params = s.params := by cases p <;> rfl
@[simp] theorem setR16_out (p : R16) (v : Word) : (s.setR16 p v).out = s.out := by cases p <;> rfl

@[simp] theorem setStk_sp (p : R16Stk) (v : Word) : (s.setStk p v).sp = s.sp := by cases p <;> rfl
@[simp] theorem setStk_pc (p : R16Stk) (v : Word) : (s.setStk p v).pc = s.pc := by cases p <;> rfl
@[simp] theorem setStk_run (p : R16Stk) (v : Word) : (s.setStk p v).run = s.run := by cases p <;> rfl
@[simp] theorem setStk_ime (p : R16Stk) (v : Word) : (s.setStk p v).ime = s.ime := by cases p <;> rfl
@[simp] theorem setStk_imePending (p : R16Stk) (v : Word) : (s.setStk p v).imePending = s.imePending := by cases p <;> rfl
@[simp] theorem setStk_mem (p : R16Stk) (v : Word) : (s.setStk p v).mem = s.mem := by cases p <;> rfl
@[simp] theorem setStk_ext (p : R16Stk) (v : Word) : (s.setStk p v).ext = s.ext := by cases p <;> rfl
@[simp] theorem setStk_params (p : R16Stk) (v : Word) : (s.setStk p v).params = s.params := by cases p <;> rfl
@[simp] theorem setStk_out (p : R16Stk) (v : Word) : (s.setStk p v).out = s.out := by cases p <;> rfl

@[simp] theorem jump_a (t : Word) (n k : Nat) : (s.jump t n k).a = s.a := rfl
@[simp] theorem jump_f (t : Word) (n k : Nat) : (s.jump t n k).f = s.f := rfl
@[simp] theorem jump_b (t : Word) (n k : Nat) : (s.jump t n k).b = s.b := rfl
@[simp] theorem jump_c (t : Word) (n k : Nat) : (s.jump t n k).c = s.c := rfl
@[simp] theorem jump_d (t : Word) (n k : Nat) : (s.jump t n k).d = s.d := rfl
@[simp] theorem jump_e (t : Word) (n k : Nat) : (s.jump t n k).e = s.e := rfl
@[simp] theorem jump_h (t : Word) (n k : Nat) : (s.jump t n k).h = s.h := rfl
@[simp] theorem jump_l (t : Word) (n k : Nat) : (s.jump t n k).l = s.l := rfl
@[simp] theorem jump_sp (t : Word) (n k : Nat) : (s.jump t n k).sp = s.sp := rfl
@[simp] theorem jump_run (t : Word) (n k : Nat) : (s.jump t n k).run = s.run := rfl
@[simp] theorem jump_ime (t : Word) (n k : Nat) : (s.jump t n k).ime = s.ime := rfl
@[simp] theorem jump_imePending (t : Word) (n k : Nat) : (s.jump t n k).imePending = s.imePending := rfl
@[simp] theorem jump_mem (t : Word) (n k : Nat) : (s.jump t n k).mem = s.mem := rfl
@[simp] theorem jump_ext (t : Word) (n k : Nat) : (s.jump t n k).ext = s.ext := rfl
@[simp] theorem jump_params (t : Word) (n k : Nat) : (s.jump t n k).params = s.params := rfl

@[simp] theorem jump_pc (t : Word) (n k : Nat) : (s.jump t n k).pc = t := rfl
@[simp] theorem jump_out (t : Word) (n k : Nat) : (s.jump t n k).out = ⟨n, k, none⟩ := rfl

@[simp] theorem finish_a (n k : Nat) : (s.finish n k).a = s.a := rfl
@[simp] theorem finish_f (n k : Nat) : (s.finish n k).f = s.f := rfl
@[simp] theorem finish_b (n k : Nat) : (s.finish n k).b = s.b := rfl
@[simp] theorem finish_c (n k : Nat) : (s.finish n k).c = s.c := rfl
@[simp] theorem finish_d (n k : Nat) : (s.finish n k).d = s.d := rfl
@[simp] theorem finish_e (n k : Nat) : (s.finish n k).e = s.e := rfl
@[simp] theorem finish_h (n k : Nat) : (s.finish n k).h = s.h := rfl
@[simp] theorem finish_l (n k : Nat) : (s.finish n k).l = s.l := rfl
@[simp] theorem finish_sp (n k : Nat) : (s.finish n k).sp = s.sp := rfl
@[simp] theorem finish_run (n k : Nat) : (s.finish n k).run = s.run := rfl
@[simp] theorem finish_ime (n k : Nat) : (s.finish n k).ime = s.ime := rfl
@[simp] theorem finish_imePending (n k : Nat) : (s.finish n k).imePending = s.imePending := rfl
@[simp] theorem finish_mem (n k : Nat) : (s.finish n k).mem = s.mem := rfl
@[simp] theorem finish_ext (n k : Nat) : (s.finish n k).ext = s.ext := rfl
@[simp] theorem finish_params (n k : Nat) : (s.finish n k).params = s.params := rfl

@[simp] theorem finish_pc (n k : Nat) : (s.finish n k).pc = s.pc + BitVec.ofNat 16 n := rfl
@[simp] theorem finish_out (n k : Nat) : (s.finish n k).out = ⟨n, k, none⟩ := rfl

@[simp] theorem takeInvalidOpcode_a (b : Byte) : (takeInvalidOpcode b s).a = s.a := rfl
@[simp] theorem takeInvalidOpcode_f (b : Byte) : (takeInvalidOpcode b s).f = s.f := rfl
@[simp] theorem takeInvalidOpcode_b (b : Byte) : (takeInvalidOpcode b s).b = s.b := rfl
@[simp] theorem takeInvalidOpcode_c (b : Byte) : (takeInvalidOpcode b s).c = s.c := rfl
@[simp] theorem takeInvalidOpcode_d (b : Byte) : (takeInvalidOpcode b s).d = s.d := rfl
@[simp] theorem takeInvalidOpcode_e (b : Byte) : (takeInvalidOpcode b s).e = s.e := rfl
@[simp] theorem takeInvalidOpcode_h (b : Byte) : (takeInvalidOpcode b s).h = s.h := rfl
@[simp] theorem takeInvalidOpcode_l (b : Byte) : (takeInvalidOpcode b s).l = s.l := rfl
@[simp] theorem takeInvalidOpcode_sp (b : Byte) : (takeInvalidOpcode b s).sp = s.sp := rfl
@[simp] theorem takeInvalidOpcode_pc (b : Byte) : (takeInvalidOpcode b s).pc = s.pc := rfl
@[simp] theorem takeInvalidOpcode_ime (b : Byte) : (takeInvalidOpcode b s).ime = s.ime := rfl
@[simp] theorem takeInvalidOpcode_imePending (b : Byte) : (takeInvalidOpcode b s).imePending = s.imePending := rfl
@[simp] theorem takeInvalidOpcode_mem (b : Byte) : (takeInvalidOpcode b s).mem = s.mem := rfl
@[simp] theorem takeInvalidOpcode_ext (b : Byte) : (takeInvalidOpcode b s).ext = s.ext := rfl
@[simp] theorem takeInvalidOpcode_params (b : Byte) : (takeInvalidOpcode b s).params = s.params := rfl

@[simp] theorem takeInvalidOpcode_run (b : Byte) : (takeInvalidOpcode b s).run = .locked := rfl

@[simp] theorem getR8_setR8 (r r' : R8) (v : Byte) : (s.setR8 r v).getR8 r' = if r' = r then v else s.getR8 r' := by
  cases r <;> cases r' <;> rfl

@[simp] theorem getR16_setR16_sp (p : R16) (v : Word) (h : p ≠ .sp) : (s.setR16 p v).sp = s.sp := by
  cases p <;> first | rfl | exact absurd rfl h

@[simp] theorem setR16_sp_sp (v : Word) : (s.setR16 .sp v).sp = v := rfl

@[simp] theorem flagZ_jump (t : Word) (n k : Nat) : (s.jump t n k).flagZ = s.flagZ := rfl
@[simp] theorem flagC_jump (t : Word) (n k : Nat) : (s.jump t n k).flagC = s.flagC := rfl
@[simp] theorem flagN_jump (t : Word) (n k : Nat) : (s.jump t n k).flagN = s.flagN := rfl
@[simp] theorem flagZ_finish (n k : Nat) : (s.finish n k).flagZ = s.flagZ := rfl
@[simp] theorem flagC_finish (n k : Nat) : (s.finish n k).flagC = s.flagC := rfl
@[simp] theorem flagN_finish (n k : Nat) : (s.finish n k).flagN = s.flagN := rfl

/-- Masking F leaves its low nibble zero. -/
theorem low_of_masked (v : Byte) : (v &&& 0xF0#8) &&& 0x0F#8 = 0#8 := by
  rw [BitVec.and_assoc]; simp

/-- What a commit can do: nothing, or set IME and clear IME_pending. -/
theorem commitEI_cases (p0 : Bool) :
    commitEI p0 s = s ∨
      (p0 = true ∧ s.imePending = true ∧ commitEI p0 s = { s with ime := true, imePending := false }) := by
  unfold commitEI
  split
  · rename_i h
    simp only [Bool.and_eq_true] at h
    exact .inr ⟨h.1, h.2, rfl⟩
  · exact .inl rfl

end

end Sys2Proof.Machine
end

