-- ==== Sys2Proof/Laws/Flags.lean ====
section
/-! SUPPORT. The laws of the flag byte and of the flag computations. -/

namespace Sys2Proof.Machine

/-- The flag byte has nothing in its low nibble, so masking it changes nothing. -/
@[simp] theorem packF_masked (z n h c : Bool) : packF z n h c &&& 0xF0#8 = packF z n h c := by
  revert z n h c; decide

theorem packF_eq (z n h c : Bool) :
    packF z n h c = BitVec.ofNat 8 (0x80 * z.toNat + 0x40 * n.toNat + 0x20 * h.toNat + 0x10 * c.toNat) := by
  revert z n h c; decide

/-- A flag byte with a zero low nibble is made of its four flags. -/
theorem packF_getLsbD (f : Byte) (h : f &&& 0x0F#8 = 0#8) :
    packF (f.getLsbD 7) (f.getLsbD 6) (f.getLsbD 5) (f.getLsbD 4) = f := by
  revert f; decide

@[simp] theorem packF_getElem_7 (z n h c : Bool) : (packF z n h c)[7] = z := by revert z n h c; decide
@[simp] theorem packF_getElem_6 (z n h c : Bool) : (packF z n h c)[6] = n := by revert z n h c; decide
@[simp] theorem packF_getElem_5 (z n h c : Bool) : (packF z n h c)[5] = h := by revert z n h c; decide
@[simp] theorem packF_getElem_4 (z n h c : Bool) : (packF z n h c)[4] = c := by revert z n h c; decide

section
variable (s : State) (z n h c : Bool)

@[simp] theorem flagZ_setFlags : (s.setFlags z n h c).flagZ = z := by simp [State.flagZ]
@[simp] theorem flagN_setFlags : (s.setFlags z n h c).flagN = n := by simp [State.flagN]
@[simp] theorem flagH_setFlags : (s.setFlags z n h c).flagH = h := by simp [State.flagH]
@[simp] theorem flagC_setFlags : (s.setFlags z n h c).flagC = c := by simp [State.flagC]

end

section
variable (s : State) (r : R8) (v : Byte)

@[simp] theorem flagZ_setR8 : (s.setR8 r v).flagZ = s.flagZ := by simp [State.flagZ]
@[simp] theorem flagN_setR8 : (s.setR8 r v).flagN = s.flagN := by simp [State.flagN]
@[simp] theorem flagH_setR8 : (s.setR8 r v).flagH = s.flagH := by simp [State.flagH]
@[simp] theorem flagC_setR8 : (s.setR8 r v).flagC = s.flagC := by simp [State.flagC]

end

/-- A byte is zero when its number is 0 modulo 256. -/
theorem byte_beq_zero (n : Nat) : (BitVec.ofNat 8 n == 0#8) = decide (n % 256 = 0) := by
  rw [beq_eq_decide, decide_eq_decide]
  constructor
  · intro h; simpa using congrArg BitVec.toNat h
  · intro h; exact BitVec.eq_of_toNat_eq (by simpa using h)

/-- `add8` on numbers: the untruncated sum and the sum of the low nibbles (spec/42_alu8.md R150). -/
theorem add8_eq (a b : Byte) (c : Bool) :
    add8 a b c =
      { r := BitVec.ofNat 8 (a.toNat + b.toNat + c.toNat)
        z := decide ((a.toNat + b.toNat + c.toNat) % 256 = 0)
        n := false
        h := decide (a.toNat % 16 + b.toNat % 16 + c.toNat > 0xF)
        c := decide (a.toNat + b.toNat + c.toNat > 0xFF) } := by
  simp only [add8, nibble, AluOut.mk.injEq, true_and, and_true]
  refine ⟨?_, rfl⟩
  exact byte_beq_zero _

/-- `sub8` on numbers, with 512 added so that no subtraction truncates (spec/42_alu8.md R151). -/
theorem sub8_eq (a b : Byte) (c : Bool) :
    sub8 a b c =
      { r := BitVec.ofNat 8 (a.toNat + 512 - b.toNat - c.toNat)
        z := decide ((a.toNat + 512 - b.toNat - c.toNat) % 256 = 0)
        n := true
        h := decide (a.toNat % 16 < b.toNat % 16 + c.toNat)
        c := decide (a.toNat < b.toNat + c.toNat) } := by
  have ha := a.isLt
  have hb := b.isLt
  have hr : a - b - BitVec.ofNat 8 c.toNat = BitVec.ofNat 8 (a.toNat + 512 - b.toNat - c.toNat) := by
    apply BitVec.eq_of_toNat_eq
    cases c <;> simp <;> omega
  simp only [sub8, nibble, AluOut.mk.injEq, true_and, and_true, hr]
  refine ⟨?_, rfl⟩
  exact byte_beq_zero _

end Sys2Proof.Machine
end

