-- ==== Sys2Proof/Laws/Memory.lean ====
section
/-! SUPPORT. The laws of memory and of the router: read after write, the canonical form is kept, and all that a byte
access can change of the state. -/

namespace Sys2Proof.Machine

namespace Memory

theorem wfFrom_mono {lo lo' : Nat} {m : List Host.Cell} (h : wfFrom lo m = true) (hl : lo' ≤ lo) :
    wfFrom lo' m = true := by
  cases m with
  | nil => rfl
  | cons c rest =>
    obtain ⟨k, v⟩ := c
    simp only [wfFrom, Bool.and_eq_true, decide_eq_true_eq] at h ⊢
    exact ⟨⟨by omega, h.1.2⟩, h.2⟩

/-- A key below the bound is not listed. -/
theorem get_of_lt {lo i : Nat} {m : List Host.Cell} (h : wfFrom lo m = true) (hi : i < lo) :
    get m i = Config.unlistedByte := by
  induction m generalizing lo with
  | nil => rfl
  | cons c rest ih =>
    obtain ⟨k, v⟩ := c
    simp only [wfFrom, Bool.and_eq_true, decide_eq_true_eq] at h
    rw [get, if_neg (by omega), ih h.2 (by omega)]

/-- Read after write at the same cell. -/
theorem get_set_same {lo : Nat} {m : List Host.Cell} (h : wfFrom lo m = true) (i : Nat) (x : Byte) :
    get (set m i x) i = x := by
  induction m generalizing lo with
  | nil =>
    unfold set
    split
    · next hx => simp [get, hx]
    · simp [get]
  | cons c rest ih =>
    obtain ⟨k, v⟩ := c
    simp only [wfFrom, Bool.and_eq_true, decide_eq_true_eq] at h
    unfold set
    split
    · next hik =>
      split
      · next hx => rw [get, if_neg (by omega), get_of_lt h.2 (by omega), hx]
      · simp [get]
    · split
      · next hik =>
        split
        · next hx => rw [get_of_lt h.2 (by omega), hx]
        · simp [get]
      · next h1 h2 => rw [get, if_neg (by omega), ih h.2]

/-- A write leaves every other cell. -/
theorem get_set_ne (m : List Host.Cell) {i j : Nat} (x : Byte) (hij : i ≠ j) : get (set m i x) j = get m j := by
  induction m with
  | nil =>
    unfold set
    split
    · rfl
    · simp [get, hij]
  | cons c rest ih =>
    obtain ⟨k, v⟩ := c
    unfold set
    split
    · split
      · rfl
      · rw [get, if_neg hij]
    · split
      · next h =>
        subst h
        split
        · rw [get, if_neg hij]
        · rw [get, if_neg hij, get, if_neg hij]
      · rw [get, get, ih]

theorem wfFrom_set {lo : Nat} {m : List Host.Cell} (h : wfFrom lo m = true) {i : Nat} (hi : lo ≤ i) (x : Byte) :
    wfFrom lo (set m i x) = true := by
  induction m generalizing lo with
  | nil =>
    unfold set
    split
    · rfl
    · next hx => simp [wfFrom, hi, hx]
  | cons c rest ih =>
    obtain ⟨k, v⟩ := c
    have h' := h
    simp only [wfFrom, Bool.and_eq_true, decide_eq_true_eq] at h
    unfold set
    split
    · next hik =>
      split
      · exact h'
      · next hx =>
        simp only [wfFrom, Bool.and_eq_true, decide_eq_true_eq]
        exact ⟨⟨hi, by simpa using hx⟩, ⟨⟨by omega, h.1.2⟩, h.2⟩⟩
    · split
      · next hik =>
        split
        · exact wfFrom_mono h.2 (by omega)
        · next hx =>
          simp only [wfFrom, Bool.and_eq_true, decide_eq_true_eq]
          exact ⟨⟨hi, by simpa using hx⟩, wfFrom_mono h.2 (by omega)⟩
      · simp only [wfFrom, Bool.and_eq_true, decide_eq_true_eq]
        exact ⟨⟨h.1.1, h.1.2⟩, ih h.2 (by omega)⟩

/-- A write keeps the canonical form. -/
theorem wf_set {m : List Host.Cell} (h : wf m = true) (i : Nat) (x : Byte) : wf (set m i x) = true :=
  wfFrom_set h (Nat.zero_le i) x

/-- A write to a cell that exists keeps the listed keys among the cells that exist. -/
theorem inCells_set {m : List Host.Cell} (h : inCells m = true) {i : Nat} (hi : isCell i = true) (x : Byte) :
    inCells (set m i x) = true := by
  induction m with
  | nil =>
    unfold set
    split
    · rfl
    · simp [inCells, hi]
  | cons c rest ih =>
    obtain ⟨k, v⟩ := c
    simp only [inCells, List.all_cons, Bool.and_eq_true] at h ih
    unfold set
    split
    · split
      · simp only [inCells, List.all_cons, Bool.and_eq_true]; exact h
      · simp only [inCells, List.all_cons, Bool.and_eq_true]; exact ⟨hi, h⟩
    · split
      · split
        · exact h.2
        · simp only [inCells, List.all_cons, Bool.and_eq_true]; exact ⟨hi, h.2⟩
      · simp only [inCells, List.all_cons, Bool.and_eq_true]; exact ⟨h.1, ih h.2⟩

end Memory

/-! The router. -/

/-- The key of a RAM route is that of a RAM cell. -/
theorem route_ram_bounds {a : Word} {k : Nat} (h : route a = .ram k) :
    (0xC000 ≤ k ∧ k < 0xE000) ∨ (0xFF80 ≤ k ∧ k < 0xFFFF) := by
  simp only [route] at h
  repeat' split at h
  all_goals first
    | (have := Route.ram.inj h; omega)
    | (exact absurd h (by simp))

theorem isCell_of_route_ram {a : Word} {k : Nat} (h : route a = .ram k) : Memory.isCell k = true := by
  have := route_ram_bounds h
  simp only [Memory.isCell, Bool.or_eq_true, Bool.and_eq_true, decide_eq_true_eq]
  omega

/-- The key of a ROM route is the address. -/
theorem route_rom_bounds {a : Word} {k : Nat} (h : route a = .rom k) : k = a.toNat ∧ k < 0x8000 := by
  simp only [route] at h
  repeat' split at h
  all_goals first
    | (have := Route.rom.inj h; omega)
    | (exact absurd h (by simp))

/-- The router, region by region. -/
theorem route_rom {a : Word} (h : a.toNat < 0x8000) : route a = .rom a.toNat := by
  simp only [route]; exact if_pos h

theorem route_working {a : Word} (h1 : 0xC000 ≤ a.toNat) (h2 : a.toNat < 0xE000) : route a = .ram a.toNat := by
  simp only [route]; repeat' split
  all_goals first | (exfalso; omega) | rfl

theorem route_echo {a : Word} (h1 : 0xE000 ≤ a.toNat) (h2 : a.toNat < 0xFE00) : route a = .ram (a.toNat - 0x2000) := by
  simp only [route]; repeat' split
  all_goals first | (exfalso; omega) | rfl

theorem route_high {a : Word} (h1 : 0xFF80 ≤ a.toNat) (h2 : a.toNat < 0xFFFF) : route a = .ram a.toNat := by
  simp only [route]; repeat' split
  all_goals first | (exfalso; omega) | rfl

theorem route_ext {a : Word} (h : (0x8000 ≤ a.toNat ∧ a.toNat < 0xC000) ∨ (0xFE00 ≤ a.toNat ∧ a.toNat < 0xFF80) ∨
    a.toNat = 0xFFFF) : route a = .ext := by
  simp only [route]; repeat' split
  all_goals first | (exfalso; omega) | rfl

/-- All that a byte read can do: give a cell's byte and change nothing, give 0xFF and change nothing, or give the
collaborator's answer and let the collaborator see the read. -/
theorem memRead_cases (s : State) (a : Word) :
    (∃ k, (route a = .rom k ∨ route a = .ram k) ∧ memRead s a = (Memory.get s.mem k, s)) ∨
    (route a = .ext ∧ s.ext = .absent ∧ memRead s a = (0xFF#8, s)) ∨
    (route a = .ext ∧ ∃ hist, s.ext = .attached hist ∧
      memRead s a = (Config.extAnswer hist a,
        { s with ext := .attached (.read a (Config.extAnswer hist a) :: hist) })) := by
  unfold memRead
  split
  · next k h => exact .inl ⟨k, .inl h, rfl⟩
  · next k h => exact .inl ⟨k, .inr h, rfl⟩
  · next h =>
    unfold extRead
    split
    · next he => exact .inr (.inl ⟨h, he, rfl⟩)
    · next hist he => exact .inr (.inr ⟨h, hist, he, rfl⟩)

/-- All that a byte read can change is the collaborator's history. -/
theorem memRead_state (s : State) (a : Word) : ∃ e, (memRead s a).2 = { s with ext := e } := by
  rcases memRead_cases s a with ⟨k, _, h⟩ | ⟨_, _, h⟩ | ⟨_, hist, _, h⟩
  · exact ⟨s.ext, by rw [h]⟩
  · exact ⟨s.ext, by rw [h]⟩
  · exact ⟨_, by rw [h]⟩

/-- All that a byte write can do. -/
theorem memWrite_cases (s : State) (a : Word) (v : Byte) :
    memWrite s a v = s ∨ (∃ k, route a = .ram k ∧ memWrite s a v = { s with mem := Memory.set s.mem k v }) ∨
    (route a = .ext ∧ ∃ hist, s.ext = .attached hist ∧
      memWrite s a v = { s with ext := .attached (.write a v :: hist) }) := by
  unfold memWrite
  split
  · exact .inl rfl
  · next k h => exact .inr (.inl ⟨k, h, rfl⟩)
  · next h =>
    unfold extWrite
    split
    · exact .inl rfl
    · next hist he => exact .inr (.inr ⟨h, hist, he, rfl⟩)

/-- All that a byte write can change is memory and the collaborator's history. -/
theorem memWrite_state (s : State) (a : Word) (v : Byte) : ∃ m e, memWrite s a v = { s with mem := m, ext := e } := by
  rcases memWrite_cases s a v with h | ⟨k, _, h⟩ | ⟨_, hist, _, h⟩
  · exact ⟨s.mem, s.ext, by rw [h]⟩
  · exact ⟨_, s.ext, by rw [h]⟩
  · exact ⟨s.mem, _, by rw [h]⟩

section
variable (s : State)

@[simp] theorem memRead_a (a : Word) : (memRead s a).2.a = s.a := by
  obtain ⟨e, h⟩ := memRead_state s a; rw [h]
@[simp] theorem memRead_f (a : Word) : (memRead s a).2.f = s.f := by
  obtain ⟨e, h⟩ := memRead_state s a; rw [h]
@[simp] theorem memRead_b (a : Word) : (memRead s a).2.b = s.b := by
  obtain ⟨e, h⟩ := memRead_state s a; rw [h]
@[simp] theorem memRead_c (a : Word) : (memRead s a).2.c = s.c := by
  obtain ⟨e, h⟩ := memRead_state s a; rw [h]
@[simp] theorem memRead_d (a : Word) : (memRead s a).2.d = s.d := by
  obtain ⟨e, h⟩ := memRead_state s a; rw [h]
@[simp] theorem memRead_e (a : Word) : (memRead s a).2.e = s.e := by
  obtain ⟨e, h⟩ := memRead_state s a; rw [h]
@[simp] theorem memRead_h (a : Word) : (memRead s a).2.h = s.h := by
  obtain ⟨e, h⟩ := memRead_state s a; rw [h]
@[simp] theorem memRead_l (a : Word) : (memRead s a).2.l = s.l := by
  obtain ⟨e, h⟩ := memRead_state s a; rw [h]
@[simp] theorem memRead_sp (a : Word) : (memRead s a).2.sp = s.sp := by
  obtain ⟨e, h⟩ := memRead_state s a; rw [h]
@[simp] theorem memRead_pc (a : Word) : (memRead s a).2.pc = s.pc := by
  obtain ⟨e, h⟩ := memRead_state s a; rw [h]
@[simp] theorem memRead_run (a : Word) : (memRead s a).2.run = s.run := by
  obtain ⟨e, h⟩ := memRead_state s a; rw [h]
@[simp] theorem memRead_ime (a : Word) : (memRead s a).2.ime = s.ime := by
  obtain ⟨e, h⟩ := memRead_state s a; rw [h]
@[simp] theorem memRead_imePending (a : Word) : (memRead s a).2.imePending = s.imePending := by
  obtain ⟨e, h⟩ := memRead_state s a; rw [h]
@[simp] theorem memRead_mem (a : Word) : (memRead s a).2.mem = s.mem := by
  obtain ⟨e, h⟩ := memRead_state s a; rw [h]
@[simp] theorem memRead_params (a : Word) : (memRead s a).2.params = s.params := by
  obtain ⟨e, h⟩ := memRead_state s a; rw [h]
@[simp] theorem memRead_out (a : Word) : (memRead s a).2.out = s.out := by
  obtain ⟨e, h⟩ := memRead_state s a; rw [h]

@[simp] theorem memWrite_a (a : Word) (v : Byte) : (memWrite s a v).a = s.a := by
  obtain ⟨m, e, h⟩ := memWrite_state s a v; rw [h]
@[simp] theorem memWrite_f (a : Word) (v : Byte) : (memWrite s a v).f = s.f := by
  obtain ⟨m, e, h⟩ := memWrite_state s a v; rw [h]
@[simp] theorem memWrite_b (a : Word) (v : Byte) : (memWrite s a v).b = s.b := by
  obtain ⟨m, e, h⟩ := memWrite_state s a v; rw [h]
@[simp] theorem memWrite_c (a : Word) (v : Byte) : (memWrite s a v).c = s.c := by
  obtain ⟨m, e, h⟩ := memWrite_state s a v; rw [h]
@[simp] theorem memWrite_d (a : Word) (v : Byte) : (memWrite s a v).d = s.d := by
  obtain ⟨m, e, h⟩ := memWrite_state s a v; rw [h]
@[simp] theorem memWrite_e (a : Word) (v : Byte) : (memWrite s a v).e = s.e := by
  obtain ⟨m, e, h⟩ := memWrite_state s a v; rw [h]
@[simp] theorem memWrite_h (a : Word) (v : Byte) : (memWrite s a v).h = s.h := by
  obtain ⟨m, e, h⟩ := memWrite_state s a v; rw [h]
@[simp] theorem memWrite_l (a : Word) (v : Byte) : (memWrite s a v).l = s.l := by
  obtain ⟨m, e, h⟩ := memWrite_state s a v; rw [h]
@[simp] theorem memWrite_sp (a : Word) (v : Byte) : (memWrite s a v).sp = s.sp := by
  obtain ⟨m, e, h⟩ := memWrite_state s a v; rw [h]
@[simp] theorem memWrite_pc (a : Word) (v : Byte) : (memWrite s a v).pc = s.pc := by
  obtain ⟨m, e, h⟩ := memWrite_state s a v; rw [h]
@[simp] theorem memWrite_run (a : Word) (v : Byte) : (memWrite s a v).run = s.run := by
  obtain ⟨m, e, h⟩ := memWrite_state s a v; rw [h]
@[simp] theorem memWrite_ime (a : Word) (v : Byte) : (memWrite s a v).ime = s.ime := by
  obtain ⟨m, e, h⟩ := memWrite_state s a v; rw [h]
@[simp] theorem memWrite_imePending (a : Word) (v : Byte) : (memWrite s a v).imePending = s.imePending := by
  obtain ⟨m, e, h⟩ := memWrite_state s a v; rw [h]
@[simp] theorem memWrite_params (a : Word) (v : Byte) : (memWrite s a v).params = s.params := by
  obtain ⟨m, e, h⟩ := memWrite_state s a v; rw [h]
@[simp] theorem memWrite_out (a : Word) (v : Byte) : (memWrite s a v).out = s.out := by
  obtain ⟨m, e, h⟩ := memWrite_state s a v; rw [h]

@[simp] theorem memRead_hl (a : Word) : (memRead s a).2.hl = s.hl := by
  simp only [State.hl, memRead_h, memRead_l]
@[simp] theorem memRead_flagZ (a : Word) : (memRead s a).2.flagZ = s.flagZ := by simp only [State.flagZ, memRead_f]
@[simp] theorem memRead_flagN (a : Word) : (memRead s a).2.flagN = s.flagN := by simp only [State.flagN, memRead_f]
@[simp] theorem memRead_flagH (a : Word) : (memRead s a).2.flagH = s.flagH := by simp only [State.flagH, memRead_f]
@[simp] theorem memRead_flagC (a : Word) : (memRead s a).2.flagC = s.flagC := by simp only [State.flagC, memRead_f]

/-- A write does not look at SP. -/
theorem memWrite_setSp (a : Word) (v : Byte) (x : Word) :
    memWrite { s with sp := x } a v = { memWrite s a v with sp := x } := by
  unfold memWrite
  split
  · rfl
  · rfl
  · cases he : s.ext <;> simp [extWrite, he]

end

/-- A read of a cell changes nothing and gives the cell's byte, whatever the port. -/
theorem memRead_of_hasCell {s : State} {a : Word} (h : hasCell a = true) : memRead s a = (peek s a, s) := by
  rcases memRead_cases s a with ⟨k, _, e⟩ | ⟨hr, _, _⟩ | ⟨hr, _⟩
  · simp only [peek, e]
  · simp [hasCell, hr] at h
  · simp [hasCell, hr] at h

/-- With no collaborator no read changes anything. -/
theorem memRead_of_absent {s : State} (h : s.ext = .absent) (a : Word) : memRead s a = (peek s a, s) := by
  rcases memRead_cases s a with ⟨k, _, e⟩ | ⟨_, _, e⟩ | ⟨_, hist, he, _⟩
  · simp only [peek, e]
  · simp only [peek, e]
  · rw [h] at he; cases he

/-- What an address with a cell reads as depends on memory alone. -/
theorem peek_congr {s t : State} (hm : t.mem = s.mem) {a : Word} (h : hasCell a = true) : peek t a = peek s a := by
  unfold peek memRead
  split
  · rw [hm]
  · rw [hm]
  · next hr => simp [hasCell, hr] at h

/-- A write leaves every byte of another cell. -/
theorem peek_memWrite_ne (s : State) {a b : Word} (v : Byte) (hb : hasCell b = true) (hne : route b ≠ route a) :
    peek (memWrite s a v) b = peek s b := by
  rcases memWrite_cases s a v with h | ⟨k, hk, h⟩ | ⟨_, hist, _, h⟩
  · rw [h]
  · rw [h]
    unfold peek memRead
    split
    · next j hj =>
      refine Memory.get_set_ne _ _ ?_
      have h1 := route_rom_bounds hj
      have h2 := route_ram_bounds hk
      omega
    · next j hj =>
      refine Memory.get_set_ne _ _ ?_
      rintro rfl
      exact hne (hj.trans hk.symm)
    · next hr => simp [hasCell, hr] at hb
  · exact peek_congr (s := s) (t := memWrite s a v) (by rw [h]) hb

/-- A byte written to a RAM cell is what the next read there gives. -/
theorem peek_memWrite_same {s : State} (hw : Memory.wf s.mem = true) {a : Word} {k : Nat} (h : route a = .ram k)
    (v : Byte) : peek (memWrite s a v) a = v := by
  simp only [peek, memRead, memWrite, h]
  exact Memory.get_set_same hw k v

/-- A write keeps memory canonical and within the cells that exist. -/
theorem memWrite_keeps {s : State} (hw : Memory.wf s.mem = true) (hc : Memory.inCells s.mem = true) (a : Word)
    (v : Byte) : Memory.wf (memWrite s a v).mem = true ∧ Memory.inCells (memWrite s a v).mem = true := by
  rcases memWrite_cases s a v with h | ⟨k, hk, h⟩ | ⟨_, hist, _, h⟩
  · rw [h]; exact ⟨hw, hc⟩
  · rw [h]; exact ⟨Memory.wf_set hw k v, Memory.inCells_set hc (isCell_of_route_ram hk) v⟩
  · rw [h]; exact ⟨hw, hc⟩

/-- Placing a byte keeps memory canonical and within the cells that exist. -/
theorem loadByte_keeps {s : State} (hw : Memory.wf s.mem = true) (hc : Memory.inCells s.mem = true) (a : Word)
    (v : Byte) : Memory.wf (loadByte s a v).mem = true ∧ Memory.inCells (loadByte s a v).mem = true := by
  unfold loadByte
  split
  · next k hk =>
    refine ⟨Memory.wf_set hw k v, Memory.inCells_set hc ?_ v⟩
    have := route_rom_bounds hk
    simp only [Memory.isCell, Bool.or_eq_true, Bool.and_eq_true, decide_eq_true_eq]
    omega
  · next k hk => exact ⟨Memory.wf_set hw k v, Memory.inCells_set hc (isCell_of_route_ram hk) v⟩
  · exact ⟨hw, hc⟩

end Sys2Proof.Machine
end

