-- ==== Sys2Proof/Laws/Ops.lean ====
section
/-! SUPPORT. What the stack primitives can change, and what taking and leaving an interrupt can. -/

namespace Sys2Proof.Machine

section
variable (s : State)

@[simp] theorem push8_a (v : Byte) : (push8 s v).a = s.a := by simp [push8]
@[simp] theorem push8_f (v : Byte) : (push8 s v).f = s.f := by simp [push8]
@[simp] theorem push8_b (v : Byte) : (push8 s v).b = s.b := by simp [push8]
@[simp] theorem push8_c (v : Byte) : (push8 s v).c = s.c := by simp [push8]
@[simp] theorem push8_d (v : Byte) : (push8 s v).d = s.d := by simp [push8]
@[simp] theorem push8_e (v : Byte) : (push8 s v).e = s.e := by simp [push8]
@[simp] theorem push8_h (v : Byte) : (push8 s v).h = s.h := by simp [push8]
@[simp] theorem push8_l (v : Byte) : (push8 s v).l = s.l := by simp [push8]
@[simp] theorem push8_pc (v : Byte) : (push8 s v).pc = s.pc := by simp [push8]
@[simp] theorem push8_run (v : Byte) : (push8 s v).run = s.run := by simp [push8]
@[simp] theorem push8_ime (v : Byte) : (push8 s v).ime = s.ime := by simp [push8]
@[simp] theorem push8_imePending (v : Byte) : (push8 s v).imePending = s.imePending := by simp [push8]
@[simp] theorem push8_params (v : Byte) : (push8 s v).params = s.params := by simp [push8]
@[simp] theorem push8_out (v : Byte) : (push8 s v).out = s.out := by simp [push8]
@[simp] theorem push8_sp (v : Byte) : (push8 s v).sp = s.sp - 1#16 := by simp [push8]

@[simp] theorem push16_a (v : Word) : (push16 s v).a = s.a := by simp [push16]
@[simp] theorem push16_f (v : Word) : (push16 s v).f = s.f := by simp [push16]
@[simp] theorem push16_b (v : Word) : (push16 s v).b = s.b := by simp [push16]
@[simp] theorem push16_c (v : Word) : (push16 s v).c = s.c := by simp [push16]
@[simp] theorem push16_d (v : Word) : (push16 s v).d = s.d := by simp [push16]
@[simp] theorem push16_e (v : Word) : (push16 s v).e = s.e := by simp [push16]
@[simp] theorem push16_h (v : Word) : (push16 s v).h = s.h := by simp [push16]
@[simp] theorem push16_l (v : Word) : (push16 s v).l = s.l := by simp [push16]
@[simp] theorem push16_pc (v : Word) : (push16 s v).pc = s.pc := by simp [push16]
@[simp] theorem push16_run (v : Word) : (push16 s v).run = s.run := by simp [push16]
@[simp] theorem push16_ime (v : Word) : (push16 s v).ime = s.ime := by simp [push16]
@[simp] theorem push16_imePending (v : Word) : (push16 s v).imePending = s.imePending := by simp [push16]
@[simp] theorem push16_params (v : Word) : (push16 s v).params = s.params := by simp [push16]
@[simp] theorem push16_out (v : Word) : (push16 s v).out = s.out := by simp [push16]
@[simp] theorem push16_sp (v : Word) : (push16 s v).sp = s.sp - 1#16 - 1#16 := by simp [push16]

@[simp] theorem pop8_a : (pop8 s).2.a = s.a := by simp [pop8]
@[simp] theorem pop8_f : (pop8 s).2.f = s.f := by simp [pop8]
@[simp] theorem pop8_b : (pop8 s).2.b = s.b := by simp [pop8]
@[simp] theorem pop8_c : (pop8 s).2.c = s.c := by simp [pop8]
@[simp] theorem pop8_d : (pop8 s).2.d = s.d := by simp [pop8]
@[simp] theorem pop8_e : (pop8 s).2.e = s.e := by simp [pop8]
@[simp] theorem pop8_h : (pop8 s).2.h = s.h := by simp [pop8]
@[simp] theorem pop8_l : (pop8 s).2.l = s.l := by simp [pop8]
@[simp] theorem pop8_pc : (pop8 s).2.pc = s.pc := by simp [pop8]
@[simp] theorem pop8_run : (pop8 s).2.run = s.run := by simp [pop8]
@[simp] theorem pop8_ime : (pop8 s).2.ime = s.ime := by simp [pop8]
@[simp] theorem pop8_imePending : (pop8 s).2.imePending = s.imePending := by simp [pop8]
@[simp] theorem pop8_params : (pop8 s).2.params = s.params := by simp [pop8]
@[simp] theorem pop8_out : (pop8 s).2.out = s.out := by simp [pop8]
@[simp] theorem pop8_mem : (pop8 s).2.mem = s.mem := by simp [pop8]
@[simp] theorem pop8_sp : (pop8 s).2.sp = s.sp + 1#16 := rfl

@[simp] theorem pop16_a : (pop16 s).2.a = s.a := by simp [pop16]
@[simp] theorem pop16_f : (pop16 s).2.f = s.f := by simp [pop16]
@[simp] theorem pop16_b : (pop16 s).2.b = s.b := by simp [pop16]
@[simp] theorem pop16_c : (pop16 s).2.c = s.c := by simp [pop16]
@[simp] theorem pop16_d : (pop16 s).2.d = s.d := by simp [pop16]
@[simp] theorem pop16_e : (pop16 s).2.e = s.e := by simp [pop16]
@[simp] theorem pop16_h : (pop16 s).2.h = s.h := by simp [pop16]
@[simp] theorem pop16_l : (pop16 s).2.l = s.l := by simp [pop16]
@[simp] theorem pop16_pc : (pop16 s).2.pc = s.pc := by simp [pop16]
@[simp] theorem pop16_run : (pop16 s).2.run = s.run := by simp [pop16]
@[simp] theorem pop16_ime : (pop16 s).2.ime = s.ime := by simp [pop16]
@[simp] theorem pop16_imePending : (pop16 s).2.imePending = s.imePending := by simp [pop16]
@[simp] theorem pop16_params : (pop16 s).2.params = s.params := by simp [pop16]
@[simp] theorem pop16_out : (pop16 s).2.out = s.out := by simp [pop16]
@[simp] theorem pop16_mem : (pop16 s).2.mem = s.mem := by simp [pop16]
@[simp] theorem pop16_sp : (pop16 s).2.sp = s.sp + 1#16 + 1#16 := by simp [pop16]

/-- A push as two byte writes, SP moving at the end. -/
theorem push16_eq (v : Word) :
    push16 s v =
      { memWrite (memWrite s (s.sp - 1#16) (hi8 v)) (s.sp - 1#16 - 1#16) (lo8 v) with sp := s.sp - 1#16 - 1#16 } := by
  simp only [push16, push8, memWrite_setSp]

end

/-- A push keeps memory canonical and within the cells that exist. -/
theorem push16_keeps {s : State} (hw : Memory.wf s.mem = true) (hc : Memory.inCells s.mem = true) (v : Word) :
    Memory.wf (push16 s v).mem = true ∧ Memory.inCells (push16 s v).mem = true := by
  rw [push16_eq]
  have h := memWrite_keeps hw hc (s.sp - 1#16) (hi8 v)
  exact memWrite_keeps h.1 h.2 _ _

/-- A push leaves every byte of a cell it does not store to. -/
theorem peek_push16_ne (s : State) (v : Word) {b : Word} (hb : hasCell b = true)
    (h1 : route b ≠ route (s.sp - 1#16)) (h2 : route b ≠ route (s.sp - 1#16 - 1#16)) :
    peek (push16 s v) b = peek s b := by
  rw [push16_eq]
  have h := (peek_memWrite_ne (memWrite s (s.sp - 1#16) (hi8 v)) (lo8 v) hb h2).trans
    (peek_memWrite_ne s (hi8 v) hb h1)
  refine Eq.trans (peek_congr ?_ hb) h
  rfl

end Sys2Proof.Machine
end

