-- ==== Sys2Proof/Laws/Shape.lean ====
section
/-! SUPPORT. The shapes of the instructions: each of the 511 is one operand choice of one of these forms, with the
form's shared operation as its effect. A proof about every instruction is a case split over the forms. -/

namespace Sys2Proof.Machine

/-- The instruction is an operand choice of this form, whose effect is the operation. -/
inductive Shape : Instr → (State → State) → Prop
  | ldRegReg (r r' : R8) : Shape (Sel.ld (.reg r) (.reg r')) (ldRegReg r r')
  | ldRegN8 (r : R8) (n : Byte) : Shape (Sel.ldN8 n (.reg r)) (ldRegN8 r n)
  | ldRegAtHL (r : R8) : Shape (Sel.ld (.reg r) .atHL) (ldRegAtHL r)
  | ldAtHLReg (r : R8) : Shape (Sel.ld .atHL (.reg r)) (ldAtHLReg r)
  | ldAtHLN8 (n : Byte) : Shape (.ldMemHLN8 n) (ldAtHLN8 n)
  | ldAMemBC : Shape .ldAMemBC (fun s => ldAFrom s.bc 1 2 s)
  | ldAMemDE : Shape .ldAMemDE (fun s => ldAFrom s.de 1 2 s)
  | ldAMemA16 (a : Word) : Shape (.ldAMemA16 a) (ldAFrom a 3 4)
  | ldhAMemA8 (a : Byte) : Shape (.ldhAMemA8 a) (ldAFrom (highPage a) 2 3)
  | ldhAMemC : Shape .ldhAMemC (fun s => ldAFrom (highPage s.c) 1 2 s)
  | ldMemBCA : Shape .ldMemBCA (fun s => ldToA s.bc 1 2 s)
  | ldMemDEA : Shape .ldMemDEA (fun s => ldToA s.de 1 2 s)
  | ldMemA16A (a : Word) : Shape (.ldMemA16A a) (ldToA a 3 4)
  | ldhMemA8A (a : Byte) : Shape (.ldhMemA8A a) (ldToA (highPage a) 2 3)
  | ldhMemCA : Shape .ldhMemCA (fun s => ldToA (highPage s.c) 1 2 s)
  | ldMemHLIncA : Shape .ldMemHLIncA (ldAtHLAThen 1#16)
  | ldMemHLDecA : Shape .ldMemHLDecA (ldAtHLAThen (-1#16))
  | ldAMemHLInc : Shape .ldAMemHLInc (ldAAtHLThen 1#16)
  | ldAMemHLDec : Shape .ldAMemHLDec (ldAAtHLThen (-1#16))
  | ldR16N16 (p : R16) (n : Word) : Shape (Sel.ldN16 n p) (ldR16N16 p n)
  | ldAtA16SP (a : Word) : Shape (.ldMemA16SP a) (ldAtA16SP a)
  | ldSPFromHL : Shape .ldSPHL ldSPFromHL
  | ldHLFromSP (e : Byte) : Shape (.ldHLSPE8 e) (ldHLFromSP e)
  | pushPair (p : R16Stk) : Shape (Sel.push p) (pushPair p)
  | popPair (p : R16Stk) : Shape (Sel.pop p) (popPair p)
  | aluReg (f : AluOp) (r : R8) : Shape (Sel.alu f (.reg r)) (aluReg f r)
  | aluAtHL (f : AluOp) : Shape (Sel.alu f .atHL) (aluAtHL f)
  | aluN8 (f : AluOp) (n : Byte) : Shape (Sel.aluN8 n f) (aluN8 f n)
  | incReg (r : R8) : Shape (Sel.inc8 (.reg r)) (incReg r)
  | incAtHL : Shape .incMemHL incAtHL
  | decReg (r : R8) : Shape (Sel.dec8 (.reg r)) (decReg r)
  | decAtHL : Shape .decMemHL decAtHL
  | daa : Shape .daa daaA
  | cpl : Shape .cpl cplA
  | scf : Shape .scf setCarry
  | ccf : Shape .ccf complementCarry
  | addHLPair (p : R16) : Shape (Sel.addHL p) (addHLPair p)
  | incPair (p : R16) : Shape (Sel.inc16 p) (incPair p)
  | decPair (p : R16) : Shape (Sel.dec16 p) (decPair p)
  | addSPOffset (e : Byte) : Shape (.addSPE8 e) (addSPOffset e)
  | rlca : Shape .rlca (rotA .rlc)
  | rrca : Shape .rrca (rotA .rrc)
  | rla : Shape .rla (rotA .rl)
  | rra : Shape .rra (rotA .rr)
  | rotReg (f : RotOp) (r : R8) : Shape (Sel.rot f (.reg r)) (rotReg f r)
  | rotAtHL (f : RotOp) : Shape (Sel.rot f .atHL) (rotAtHL f)
  | bitReg (b : Fin 8) (r : R8) : Shape (Sel.bit b (.reg r)) (bitReg b r)
  | bitAtHL (b : Fin 8) : Shape (Sel.bit b .atHL) (bitAtHL b)
  | resReg (b : Fin 8) (r : R8) : Shape (Sel.res b (.reg r)) (resReg b r)
  | resAtHL (b : Fin 8) : Shape (Sel.res b .atHL) (resAtHL b)
  | setReg (b : Fin 8) (r : R8) : Shape (Sel.set b (.reg r)) (setReg b r)
  | setAtHL (b : Fin 8) : Shape (Sel.set b .atHL) (setAtHL b)
  | jumpAbs (a : Word) : Shape (.jpA16 a) (jumpAbs a)
  | jumpAbsIf (cc : Cond) (a : Word) : Shape (Sel.jpCc a cc) (jumpAbsIf cc a)
  | jumpHL : Shape .jpHL jumpHL
  | jumpRel (e : Byte) : Shape (.jrE8 e) (jumpRel e)
  | jumpRelIf (cc : Cond) (e : Byte) : Shape (Sel.jrCc e cc) (jumpRelIf cc e)
  | callAbs (a : Word) : Shape (.callA16 a) (callAbs a)
  | callAbsIf (cc : Cond) (a : Word) : Shape (Sel.callCc a cc) (callAbsIf cc a)
  | retPop : Shape .ret retPop
  | retPopIf (cc : Cond) : Shape (Sel.retCc cc) (retPopIf cc)
  | reti : Shape .reti returnFromInterrupt
  | rstCall (t : Fin 8) : Shape (Sel.rst t) (rstCall t)
  | nop : Shape .nop (fun s => s.finish 1 1)
  | halt : Shape .halt (fun s => State.finish { s with run := .halted } 1 1)
  | stop (n : Byte) : Shape (.stop n) (fun s => State.finish { s with run := .stopped } 2 1)
  | di : Shape .di (fun s => State.finish { s with ime := false, imePending := false } 1 1)
  | ei : Shape .ei (fun s => State.finish { s with imePending := true } 1 1)
  | illegal (i : Instr) (b : Byte) (h : i.illegalByte = some b) : Shape i (takeInvalidOpcode b)

/-- Every instruction answers a next state, the one its form's operation gives. -/
theorem exec_of_shape {i : Instr} {e : State → State} (h : Shape i e) (s : State) : exec i s = .next (e s) := by
  cases h with
  | ldRegReg r r' => cases r <;> cases r' <;> rfl
  | ldRegN8 r n => cases r <;> rfl
  | ldRegAtHL r => cases r <;> rfl
  | ldAtHLReg r => cases r <;> rfl
  | ldAtHLN8 n => rfl
  | ldAMemBC => rfl
  | ldAMemDE => rfl
  | ldAMemA16 a => rfl
  | ldhAMemA8 a => rfl
  | ldhAMemC => rfl
  | ldMemBCA => rfl
  | ldMemDEA => rfl
  | ldMemA16A a => rfl
  | ldhMemA8A a => rfl
  | ldhMemCA => rfl
  | ldMemHLIncA => rfl
  | ldMemHLDecA => rfl
  | ldAMemHLInc => rfl
  | ldAMemHLDec => rfl
  | ldR16N16 p n => cases p <;> rfl
  | ldAtA16SP a => rfl
  | ldSPFromHL => rfl
  | ldHLFromSP e => rfl
  | pushPair p => cases p <;> rfl
  | popPair p => cases p <;> rfl
  | aluReg f r => cases f <;> cases r <;> rfl
  | aluAtHL f => cases f <;> rfl
  | aluN8 f n => cases f <;> rfl
  | incReg r => cases r <;> rfl
  | incAtHL => rfl
  | decReg r => cases r <;> rfl
  | decAtHL => rfl
  | daa => rfl
  | cpl => rfl
  | scf => rfl
  | ccf => rfl
  | addHLPair p => cases p <;> rfl
  | incPair p => cases p <;> rfl
  | decPair p => cases p <;> rfl
  | addSPOffset e => rfl
  | rlca => rfl
  | rrca => rfl
  | rla => rfl
  | rra => rfl
  | rotReg f r => cases f <;> cases r <;> rfl
  | rotAtHL f => cases f <;> rfl
  | bitReg b r => cases r <;> fin_cases b <;> rfl
  | bitAtHL b => fin_cases b <;> rfl
  | resReg b r => cases r <;> fin_cases b <;> rfl
  | resAtHL b => fin_cases b <;> rfl
  | setReg b r => cases r <;> fin_cases b <;> rfl
  | setAtHL b => fin_cases b <;> rfl
  | jumpAbs a => rfl
  | jumpAbsIf cc a => cases cc <;> rfl
  | jumpHL => rfl
  | jumpRel e => rfl
  | jumpRelIf cc e => cases cc <;> rfl
  | callAbs a => rfl
  | callAbsIf cc a => cases cc <;> rfl
  | retPop => rfl
  | retPopIf cc => cases cc <;> rfl
  | reti => rfl
  | rstCall t => fin_cases t <;> rfl
  | nop => rfl
  | halt => rfl
  | stop n => rfl
  | di => rfl
  | ei => rfl
  | illegal i b h => cases i <;> simp only [Instr.illegalByte, Option.some.injEq, reduceCtorEq] at h <;> subst h <;> rfl

/-- Every instruction has a form. -/
theorem shape_of (i : Instr) : ∃ e, Shape i e := by
  cases i with
  | nop => exact ⟨_, .nop⟩
  | ldBCN16 n => exact ⟨_, .ldR16N16 .bc n⟩
  | ldMemBCA => exact ⟨_, .ldMemBCA⟩
  | incBC => exact ⟨_, .incPair .bc⟩
  | incB => exact ⟨_, .incReg .b⟩
  | decB => exact ⟨_, .decReg .b⟩
  | ldBN8 n => exact ⟨_, .ldRegN8 .b n⟩
  | rlca => exact ⟨_, .rlca⟩
  | ldMemA16SP a => exact ⟨_, .ldAtA16SP a⟩
  | addHLBC => exact ⟨_, .addHLPair .bc⟩
  | ldAMemBC => exact ⟨_, .ldAMemBC⟩
  | decBC => exact ⟨_, .decPair .bc⟩
  | incC => exact ⟨_, .incReg .c⟩
  | decC => exact ⟨_, .decReg .c⟩
  | ldCN8 n => exact ⟨_, .ldRegN8 .c n⟩
  | rrca => exact ⟨_, .rrca⟩
  | stop n => exact ⟨_, .stop n⟩
  | ldDEN16 n => exact ⟨_, .ldR16N16 .de n⟩
  | ldMemDEA => exact ⟨_, .ldMemDEA⟩
  | incDE => exact ⟨_, .incPair .de⟩
  | incD => exact ⟨_, .incReg .d⟩
  | decD => exact ⟨_, .decReg .d⟩
  | ldDN8 n => exact ⟨_, .ldRegN8 .d n⟩
  | rla => exact ⟨_, .rla⟩
  | jrE8 e => exact ⟨_, .jumpRel e⟩
  | addHLDE => exact ⟨_, .addHLPair .de⟩
  | ldAMemDE => exact ⟨_, .ldAMemDE⟩
  | decDE => exact ⟨_, .decPair .de⟩
  | incE => exact ⟨_, .incReg .e⟩
  | decE => exact ⟨_, .decReg .e⟩
  | ldEN8 n => exact ⟨_, .ldRegN8 .e n⟩
  | rra => exact ⟨_, .rra⟩
  | jrNZE8 e => exact ⟨_, .jumpRelIf .nz e⟩
  | ldHLN16 n => exact ⟨_, .ldR16N16 .hl n⟩
  | ldMemHLIncA => exact ⟨_, .ldMemHLIncA⟩
  | incHL => exact ⟨_, .incPair .hl⟩
  | incH => exact ⟨_, .incReg .h⟩
  | decH => exact ⟨_, .decReg .h⟩
  | ldHN8 n => exact ⟨_, .ldRegN8 .h n⟩
  | daa => exact ⟨_, .daa⟩
  | jrZE8 e => exact ⟨_, .jumpRelIf .z e⟩
  | addHLHL => exact ⟨_, .addHLPair .hl⟩
  | ldAMemHLInc => exact ⟨_, .ldAMemHLInc⟩
  | decHL => exact ⟨_, .decPair .hl⟩
  | incL => exact ⟨_, .incReg .l⟩
  | decL => exact ⟨_, .decReg .l⟩
  | ldLN8 n => exact ⟨_, .ldRegN8 .l n⟩
  | cpl => exact ⟨_, .cpl⟩
  | jrNCE8 e => exact ⟨_, .jumpRelIf .nc e⟩
  | ldSPN16 n => exact ⟨_, .ldR16N16 .sp n⟩
  | ldMemHLDecA => exact ⟨_, .ldMemHLDecA⟩
  | incSP => exact ⟨_, .incPair .sp⟩
  | incMemHL => exact ⟨_, .incAtHL⟩
  | decMemHL => exact ⟨_, .decAtHL⟩
  | ldMemHLN8 n => exact ⟨_, .ldAtHLN8 n⟩
  | scf => exact ⟨_, .scf⟩
  | jrCE8 e => exact ⟨_, .jumpRelIf .c e⟩
  | addHLSP => exact ⟨_, .addHLPair .sp⟩
  | ldAMemHLDec => exact ⟨_, .ldAMemHLDec⟩
  | decSP => exact ⟨_, .decPair .sp⟩
  | incA => exact ⟨_, .incReg .a⟩
  | decA => exact ⟨_, .decReg .a⟩
  | ldAN8 n => exact ⟨_, .ldRegN8 .a n⟩
  | ccf => exact ⟨_, .ccf⟩
  | ldBB => exact ⟨_, .ldRegReg .b .b⟩
  | ldBC => exact ⟨_, .ldRegReg .b .c⟩
  | ldBD => exact ⟨_, .ldRegReg .b .d⟩
  | ldBE => exact ⟨_, .ldRegReg .b .e⟩
  | ldBH => exact ⟨_, .ldRegReg .b .h⟩
  | ldBL => exact ⟨_, .ldRegReg .b .l⟩
  | ldBMemHL => exact ⟨_, .ldRegAtHL .b⟩
  | ldBA => exact ⟨_, .ldRegReg .b .a⟩
  | ldCB => exact ⟨_, .ldRegReg .c .b⟩
  | ldCC => exact ⟨_, .ldRegReg .c .c⟩
  | ldCD => exact ⟨_, .ldRegReg .c .d⟩
  | ldCE => exact ⟨_, .ldRegReg .c .e⟩
  | ldCH => exact ⟨_, .ldRegReg .c .h⟩
  | ldCL => exact ⟨_, .ldRegReg .c .l⟩
  | ldCMemHL => exact ⟨_, .ldRegAtHL .c⟩
  | ldCA => exact ⟨_, .ldRegReg .c .a⟩
  | ldDB => exact ⟨_, .ldRegReg .d .b⟩
  | ldDC => exact ⟨_, .ldRegReg .d .c⟩
  | ldDD => exact ⟨_, .ldRegReg .d .d⟩
  | ldDE => exact ⟨_, .ldRegReg .d .e⟩
  | ldDH => exact ⟨_, .ldRegReg .d .h⟩
  | ldDL => exact ⟨_, .ldRegReg .d .l⟩
  | ldDMemHL => exact ⟨_, .ldRegAtHL .d⟩
  | ldDA => exact ⟨_, .ldRegReg .d .a⟩
  | ldEB => exact ⟨_, .ldRegReg .e .b⟩
  | ldEC => exact ⟨_, .ldRegReg .e .c⟩
  | ldED => exact ⟨_, .ldRegReg .e .d⟩
  | ldEE => exact ⟨_, .ldRegReg .e .e⟩
  | ldEH => exact ⟨_, .ldRegReg .e .h⟩
  | ldEL => exact ⟨_, .ldRegReg .e .l⟩
  | ldEMemHL => exact ⟨_, .ldRegAtHL .e⟩
  | ldEA => exact ⟨_, .ldRegReg .e .a⟩
  | ldHB => exact ⟨_, .ldRegReg .h .b⟩
  | ldHC => exact ⟨_, .ldRegReg .h .c⟩
  | ldHD => exact ⟨_, .ldRegReg .h .d⟩
  | ldHE => exact ⟨_, .ldRegReg .h .e⟩
  | ldHH => exact ⟨_, .ldRegReg .h .h⟩
  | ldHL => exact ⟨_, .ldRegReg .h .l⟩
  | ldHMemHL => exact ⟨_, .ldRegAtHL .h⟩
  | ldHA => exact ⟨_, .ldRegReg .h .a⟩
  | ldLB => exact ⟨_, .ldRegReg .l .b⟩
  | ldLC => exact ⟨_, .ldRegReg .l .c⟩
  | ldLD => exact ⟨_, .ldRegReg .l .d⟩
  | ldLE => exact ⟨_, .ldRegReg .l .e⟩
  | ldLH => exact ⟨_, .ldRegReg .l .h⟩
  | ldLL => exact ⟨_, .ldRegReg .l .l⟩
  | ldLMemHL => exact ⟨_, .ldRegAtHL .l⟩
  | ldLA => exact ⟨_, .ldRegReg .l .a⟩
  | ldMemHLB => exact ⟨_, .ldAtHLReg .b⟩
  | ldMemHLC => exact ⟨_, .ldAtHLReg .c⟩
  | ldMemHLD => exact ⟨_, .ldAtHLReg .d⟩
  | ldMemHLE => exact ⟨_, .ldAtHLReg .e⟩
  | ldMemHLH => exact ⟨_, .ldAtHLReg .h⟩
  | ldMemHLL => exact ⟨_, .ldAtHLReg .l⟩
  | halt => exact ⟨_, .halt⟩
  | ldMemHLA => exact ⟨_, .ldAtHLReg .a⟩
  | ldAB => exact ⟨_, .ldRegReg .a .b⟩
  | ldAC => exact ⟨_, .ldRegReg .a .c⟩
  | ldAD => exact ⟨_, .ldRegReg .a .d⟩
  | ldAE => exact ⟨_, .ldRegReg .a .e⟩
  | ldAH => exact ⟨_, .ldRegReg .a .h⟩
  | ldAL => exact ⟨_, .ldRegReg .a .l⟩
  | ldAMemHL => exact ⟨_, .ldRegAtHL .a⟩
  | ldAA => exact ⟨_, .ldRegReg .a .a⟩
  | addAB => exact ⟨_, .aluReg .add .b⟩
  | addAC => exact ⟨_, .aluReg .add .c⟩
  | addAD => exact ⟨_, .aluReg .add .d⟩
  | addAE => exact ⟨_, .aluReg .add .e⟩
  | addAH => exact ⟨_, .aluReg .add .h⟩
  | addAL => exact ⟨_, .aluReg .add .l⟩
  | addAMemHL => exact ⟨_, .aluAtHL .add⟩
  | addAA => exact ⟨_, .aluReg .add .a⟩
  | adcAB => exact ⟨_, .aluReg .adc .b⟩
  | adcAC => exact ⟨_, .aluReg .adc .c⟩
  | adcAD => exact ⟨_, .aluReg .adc .d⟩
  | adcAE => exact ⟨_, .aluReg .adc .e⟩
  | adcAH => exact ⟨_, .aluReg .adc .h⟩
  | adcAL => exact ⟨_, .aluReg .adc .l⟩
  | adcAMemHL => exact ⟨_, .aluAtHL .adc⟩
  | adcAA => exact ⟨_, .aluReg .adc .a⟩
  | subAB => exact ⟨_, .aluReg .sub .b⟩
  | subAC => exact ⟨_, .aluReg .sub .c⟩
  | subAD => exact ⟨_, .aluReg .sub .d⟩
  | subAE => exact ⟨_, .aluReg .sub .e⟩
  | subAH => exact ⟨_, .aluReg .sub .h⟩
  | subAL => exact ⟨_, .aluReg .sub .l⟩
  | subAMemHL => exact ⟨_, .aluAtHL .sub⟩
  | subAA => exact ⟨_, .aluReg .sub .a⟩
  | sbcAB => exact ⟨_, .aluReg .sbc .b⟩
  | sbcAC => exact ⟨_, .aluReg .sbc .c⟩
  | sbcAD => exact ⟨_, .aluReg .sbc .d⟩
  | sbcAE => exact ⟨_, .aluReg .sbc .e⟩
  | sbcAH => exact ⟨_, .aluReg .sbc .h⟩
  | sbcAL => exact ⟨_, .aluReg .sbc .l⟩
  | sbcAMemHL => exact ⟨_, .aluAtHL .sbc⟩
  | sbcAA => exact ⟨_, .aluReg .sbc .a⟩
  | andAB => exact ⟨_, .aluReg .and .b⟩
  | andAC => exact ⟨_, .aluReg .and .c⟩
  | andAD => exact ⟨_, .aluReg .and .d⟩
  | andAE => exact ⟨_, .aluReg .and .e⟩
  | andAH => exact ⟨_, .aluReg .and .h⟩
  | andAL => exact ⟨_, .aluReg .and .l⟩
  | andAMemHL => exact ⟨_, .aluAtHL .and⟩
  | andAA => exact ⟨_, .aluReg .and .a⟩
  | xorAB => exact ⟨_, .aluReg .xor .b⟩
  | xorAC => exact ⟨_, .aluReg .xor .c⟩
  | xorAD => exact ⟨_, .aluReg .xor .d⟩
  | xorAE => exact ⟨_, .aluReg .xor .e⟩
  | xorAH => exact ⟨_, .aluReg .xor .h⟩
  | xorAL => exact ⟨_, .aluReg .xor .l⟩
  | xorAMemHL => exact ⟨_, .aluAtHL .xor⟩
  | xorAA => exact ⟨_, .aluReg .xor .a⟩
  | orAB => exact ⟨_, .aluReg .or .b⟩
  | orAC => exact ⟨_, .aluReg .or .c⟩
  | orAD => exact ⟨_, .aluReg .or .d⟩
  | orAE => exact ⟨_, .aluReg .or .e⟩
  | orAH => exact ⟨_, .aluReg .or .h⟩
  | orAL => exact ⟨_, .aluReg .or .l⟩
  | orAMemHL => exact ⟨_, .aluAtHL .or⟩
  | orAA => exact ⟨_, .aluReg .or .a⟩
  | cpAB => exact ⟨_, .aluReg .cp .b⟩
  | cpAC => exact ⟨_, .aluReg .cp .c⟩
  | cpAD => exact ⟨_, .aluReg .cp .d⟩
  | cpAE => exact ⟨_, .aluReg .cp .e⟩
  | cpAH => exact ⟨_, .aluReg .cp .h⟩
  | cpAL => exact ⟨_, .aluReg .cp .l⟩
  | cpAMemHL => exact ⟨_, .aluAtHL .cp⟩
  | cpAA => exact ⟨_, .aluReg .cp .a⟩
  | retNZ => exact ⟨_, .retPopIf .nz⟩
  | popBC => exact ⟨_, .popPair .bc⟩
  | jpNZA16 a => exact ⟨_, .jumpAbsIf .nz a⟩
  | jpA16 a => exact ⟨_, .jumpAbs a⟩
  | callNZA16 a => exact ⟨_, .callAbsIf .nz a⟩
  | pushBC => exact ⟨_, .pushPair .bc⟩
  | addAN8 n => exact ⟨_, .aluN8 .add n⟩
  | rst00 => exact ⟨_, .rstCall 0⟩
  | retZ => exact ⟨_, .retPopIf .z⟩
  | ret => exact ⟨_, .retPop⟩
  | jpZA16 a => exact ⟨_, .jumpAbsIf .z a⟩
  | callZA16 a => exact ⟨_, .callAbsIf .z a⟩
  | callA16 a => exact ⟨_, .callAbs a⟩
  | adcAN8 n => exact ⟨_, .aluN8 .adc n⟩
  | rst08 => exact ⟨_, .rstCall 1⟩
  | retNC => exact ⟨_, .retPopIf .nc⟩
  | popDE => exact ⟨_, .popPair .de⟩
  | jpNCA16 a => exact ⟨_, .jumpAbsIf .nc a⟩
  | illegalD3 => exact ⟨_, .illegal .illegalD3 0xD3#8 rfl⟩
  | callNCA16 a => exact ⟨_, .callAbsIf .nc a⟩
  | pushDE => exact ⟨_, .pushPair .de⟩
  | subAN8 n => exact ⟨_, .aluN8 .sub n⟩
  | rst10 => exact ⟨_, .rstCall 2⟩
  | retC => exact ⟨_, .retPopIf .c⟩
  | reti => exact ⟨_, .reti⟩
  | jpCA16 a => exact ⟨_, .jumpAbsIf .c a⟩
  | illegalDB => exact ⟨_, .illegal .illegalDB 0xDB#8 rfl⟩
  | callCA16 a => exact ⟨_, .callAbsIf .c a⟩
  | illegalDD => exact ⟨_, .illegal .illegalDD 0xDD#8 rfl⟩
  | sbcAN8 n => exact ⟨_, .aluN8 .sbc n⟩
  | rst18 => exact ⟨_, .rstCall 3⟩
  | ldhMemA8A a => exact ⟨_, .ldhMemA8A a⟩
  | popHL => exact ⟨_, .popPair .hl⟩
  | ldhMemCA => exact ⟨_, .ldhMemCA⟩
  | illegalE3 => exact ⟨_, .illegal .illegalE3 0xE3#8 rfl⟩
  | illegalE4 => exact ⟨_, .illegal .illegalE4 0xE4#8 rfl⟩
  | pushHL => exact ⟨_, .pushPair .hl⟩
  | andAN8 n => exact ⟨_, .aluN8 .and n⟩
  | rst20 => exact ⟨_, .rstCall 4⟩
  | addSPE8 e => exact ⟨_, .addSPOffset e⟩
  | jpHL => exact ⟨_, .jumpHL⟩
  | ldMemA16A a => exact ⟨_, .ldMemA16A a⟩
  | illegalEB => exact ⟨_, .illegal .illegalEB 0xEB#8 rfl⟩
  | illegalEC => exact ⟨_, .illegal .illegalEC 0xEC#8 rfl⟩
  | illegalED => exact ⟨_, .illegal .illegalED 0xED#8 rfl⟩
  | xorAN8 n => exact ⟨_, .aluN8 .xor n⟩
  | rst28 => exact ⟨_, .rstCall 5⟩
  | ldhAMemA8 a => exact ⟨_, .ldhAMemA8 a⟩
  | popAF => exact ⟨_, .popPair .af⟩
  | ldhAMemC => exact ⟨_, .ldhAMemC⟩
  | di => exact ⟨_, .di⟩
  | illegalF4 => exact ⟨_, .illegal .illegalF4 0xF4#8 rfl⟩
  | pushAF => exact ⟨_, .pushPair .af⟩
  | orAN8 n => exact ⟨_, .aluN8 .or n⟩
  | rst30 => exact ⟨_, .rstCall 6⟩
  | ldHLSPE8 e => exact ⟨_, .ldHLFromSP e⟩
  | ldSPHL => exact ⟨_, .ldSPFromHL⟩
  | ldAMemA16 a => exact ⟨_, .ldAMemA16 a⟩
  | ei => exact ⟨_, .ei⟩
  | illegalFC => exact ⟨_, .illegal .illegalFC 0xFC#8 rfl⟩
  | illegalFD => exact ⟨_, .illegal .illegalFD 0xFD#8 rfl⟩
  | cpAN8 n => exact ⟨_, .aluN8 .cp n⟩
  | rst38 => exact ⟨_, .rstCall 7⟩
  | cbRlcB => exact ⟨_, .rotReg .rlc .b⟩
  | cbRlcC => exact ⟨_, .rotReg .rlc .c⟩
  | cbRlcD => exact ⟨_, .rotReg .rlc .d⟩
  | cbRlcE => exact ⟨_, .rotReg .rlc .e⟩
  | cbRlcH => exact ⟨_, .rotReg .rlc .h⟩
  | cbRlcL => exact ⟨_, .rotReg .rlc .l⟩
  | cbRlcMemHL => exact ⟨_, .rotAtHL .rlc⟩
  | cbRlcA => exact ⟨_, .rotReg .rlc .a⟩
  | cbRrcB => exact ⟨_, .rotReg .rrc .b⟩
  | cbRrcC => exact ⟨_, .rotReg .rrc .c⟩
  | cbRrcD => exact ⟨_, .rotReg .rrc .d⟩
  | cbRrcE => exact ⟨_, .rotReg .rrc .e⟩
  | cbRrcH => exact ⟨_, .rotReg .rrc .h⟩
  | cbRrcL => exact ⟨_, .rotReg .rrc .l⟩
  | cbRrcMemHL => exact ⟨_, .rotAtHL .rrc⟩
  | cbRrcA => exact ⟨_, .rotReg .rrc .a⟩
  | cbRlB => exact ⟨_, .rotReg .rl .b⟩
  | cbRlC => exact ⟨_, .rotReg .rl .c⟩
  | cbRlD => exact ⟨_, .rotReg .rl .d⟩
  | cbRlE => exact ⟨_, .rotReg .rl .e⟩
  | cbRlH => exact ⟨_, .rotReg .rl .h⟩
  | cbRlL => exact ⟨_, .rotReg .rl .l⟩
  | cbRlMemHL => exact ⟨_, .rotAtHL .rl⟩
  | cbRlA => exact ⟨_, .rotReg .rl .a⟩
  | cbRrB => exact ⟨_, .rotReg .rr .b⟩
  | cbRrC => exact ⟨_, .rotReg .rr .c⟩
  | cbRrD => exact ⟨_, .rotReg .rr .d⟩
  | cbRrE => exact ⟨_, .rotReg .rr .e⟩
  | cbRrH => exact ⟨_, .rotReg .rr .h⟩
  | cbRrL => exact ⟨_, .rotReg .rr .l⟩
  | cbRrMemHL => exact ⟨_, .rotAtHL .rr⟩
  | cbRrA => exact ⟨_, .rotReg .rr .a⟩
  | cbSlaB => exact ⟨_, .rotReg .sla .b⟩
  | cbSlaC => exact ⟨_, .rotReg .sla .c⟩
  | cbSlaD => exact ⟨_, .rotReg .sla .d⟩
  | cbSlaE => exact ⟨_, .rotReg .sla .e⟩
  | cbSlaH => exact ⟨_, .rotReg .sla .h⟩
  | cbSlaL => exact ⟨_, .rotReg .sla .l⟩
  | cbSlaMemHL => exact ⟨_, .rotAtHL .sla⟩
  | cbSlaA => exact ⟨_, .rotReg .sla .a⟩
  | cbSraB => exact ⟨_, .rotReg .sra .b⟩
  | cbSraC => exact ⟨_, .rotReg .sra .c⟩
  | cbSraD => exact ⟨_, .rotReg .sra .d⟩
  | cbSraE => exact ⟨_, .rotReg .sra .e⟩
  | cbSraH => exact ⟨_, .rotReg .sra .h⟩
  | cbSraL => exact ⟨_, .rotReg .sra .l⟩
  | cbSraMemHL => exact ⟨_, .rotAtHL .sra⟩
  | cbSraA => exact ⟨_, .rotReg .sra .a⟩
  | cbSwapB => exact ⟨_, .rotReg .swap .b⟩
  | cbSwapC => exact ⟨_, .rotReg .swap .c⟩
  | cbSwapD => exact ⟨_, .rotReg .swap .d⟩
  | cbSwapE => exact ⟨_, .rotReg .swap .e⟩
  | cbSwapH => exact ⟨_, .rotReg .swap .h⟩
  | cbSwapL => exact ⟨_, .rotReg .swap .l⟩
  | cbSwapMemHL => exact ⟨_, .rotAtHL .swap⟩
  | cbSwapA => exact ⟨_, .rotReg .swap .a⟩
  | cbSrlB => exact ⟨_, .rotReg .srl .b⟩
  | cbSrlC => exact ⟨_, .rotReg .srl .c⟩
  | cbSrlD => exact ⟨_, .rotReg .srl .d⟩
  | cbSrlE => exact ⟨_, .rotReg .srl .e⟩
  | cbSrlH => exact ⟨_, .rotReg .srl .h⟩
  | cbSrlL => exact ⟨_, .rotReg .srl .l⟩
  | cbSrlMemHL => exact ⟨_, .rotAtHL .srl⟩
  | cbSrlA => exact ⟨_, .rotReg .srl .a⟩
  | bit0B => exact ⟨_, .bitReg 0 .b⟩
  | bit0C => exact ⟨_, .bitReg 0 .c⟩
  | bit0D => exact ⟨_, .bitReg 0 .d⟩
  | bit0E => exact ⟨_, .bitReg 0 .e⟩
  | bit0H => exact ⟨_, .bitReg 0 .h⟩
  | bit0L => exact ⟨_, .bitReg 0 .l⟩
  | bit0MemHL => exact ⟨_, .bitAtHL 0⟩
  | bit0A => exact ⟨_, .bitReg 0 .a⟩
  | bit1B => exact ⟨_, .bitReg 1 .b⟩
  | bit1C => exact ⟨_, .bitReg 1 .c⟩
  | bit1D => exact ⟨_, .bitReg 1 .d⟩
  | bit1E => exact ⟨_, .bitReg 1 .e⟩
  | bit1H => exact ⟨_, .bitReg 1 .h⟩
  | bit1L => exact ⟨_, .bitReg 1 .l⟩
  | bit1MemHL => exact ⟨_, .bitAtHL 1⟩
  | bit1A => exact ⟨_, .bitReg 1 .a⟩
  | bit2B => exact ⟨_, .bitReg 2 .b⟩
  | bit2C => exact ⟨_, .bitReg 2 .c⟩
  | bit2D => exact ⟨_, .bitReg 2 .d⟩
  | bit2E => exact ⟨_, .bitReg 2 .e⟩
  | bit2H => exact ⟨_, .bitReg 2 .h⟩
  | bit2L => exact ⟨_, .bitReg 2 .l⟩
  | bit2MemHL => exact ⟨_, .bitAtHL 2⟩
  | bit2A => exact ⟨_, .bitReg 2 .a⟩
  | bit3B => exact ⟨_, .bitReg 3 .b⟩
  | bit3C => exact ⟨_, .bitReg 3 .c⟩
  | bit3D => exact ⟨_, .bitReg 3 .d⟩
  | bit3E => exact ⟨_, .bitReg 3 .e⟩
  | bit3H => exact ⟨_, .bitReg 3 .h⟩
  | bit3L => exact ⟨_, .bitReg 3 .l⟩
  | bit3MemHL => exact ⟨_, .bitAtHL 3⟩
  | bit3A => exact ⟨_, .bitReg 3 .a⟩
  | bit4B => exact ⟨_, .bitReg 4 .b⟩
  | bit4C => exact ⟨_, .bitReg 4 .c⟩
  | bit4D => exact ⟨_, .bitReg 4 .d⟩
  | bit4E => exact ⟨_, .bitReg 4 .e⟩
  | bit4H => exact ⟨_, .bitReg 4 .h⟩
  | bit4L => exact ⟨_, .bitReg 4 .l⟩
  | bit4MemHL => exact ⟨_, .bitAtHL 4⟩
  | bit4A => exact ⟨_, .bitReg 4 .a⟩
  | bit5B => exact ⟨_, .bitReg 5 .b⟩
  | bit5C => exact ⟨_, .bitReg 5 .c⟩
  | bit5D => exact ⟨_, .bitReg 5 .d⟩
  | bit5E => exact ⟨_, .bitReg 5 .e⟩
  | bit5H => exact ⟨_, .bitReg 5 .h⟩
  | bit5L => exact ⟨_, .bitReg 5 .l⟩
  | bit5MemHL => exact ⟨_, .bitAtHL 5⟩
  | bit5A => exact ⟨_, .bitReg 5 .a⟩
  | bit6B => exact ⟨_, .bitReg 6 .b⟩
  | bit6C => exact ⟨_, .bitReg 6 .c⟩
  | bit6D => exact ⟨_, .bitReg 6 .d⟩
  | bit6E => exact ⟨_, .bitReg 6 .e⟩
  | bit6H => exact ⟨_, .bitReg 6 .h⟩
  | bit6L => exact ⟨_, .bitReg 6 .l⟩
  | bit6MemHL => exact ⟨_, .bitAtHL 6⟩
  | bit6A => exact ⟨_, .bitReg 6 .a⟩
  | bit7B => exact ⟨_, .bitReg 7 .b⟩
  | bit7C => exact ⟨_, .bitReg 7 .c⟩
  | bit7D => exact ⟨_, .bitReg 7 .d⟩
  | bit7E => exact ⟨_, .bitReg 7 .e⟩
  | bit7H => exact ⟨_, .bitReg 7 .h⟩
  | bit7L => exact ⟨_, .bitReg 7 .l⟩
  | bit7MemHL => exact ⟨_, .bitAtHL 7⟩
  | bit7A => exact ⟨_, .bitReg 7 .a⟩
  | res0B => exact ⟨_, .resReg 0 .b⟩
  | res0C => exact ⟨_, .resReg 0 .c⟩
  | res0D => exact ⟨_, .resReg 0 .d⟩
  | res0E => exact ⟨_, .resReg 0 .e⟩
  | res0H => exact ⟨_, .resReg 0 .h⟩
  | res0L => exact ⟨_, .resReg 0 .l⟩
  | res0MemHL => exact ⟨_, .resAtHL 0⟩
  | res0A => exact ⟨_, .resReg 0 .a⟩
  | res1B => exact ⟨_, .resReg 1 .b⟩
  | res1C => exact ⟨_, .resReg 1 .c⟩
  | res1D => exact ⟨_, .resReg 1 .d⟩
  | res1E => exact ⟨_, .resReg 1 .e⟩
  | res1H => exact ⟨_, .resReg 1 .h⟩
  | res1L => exact ⟨_, .resReg 1 .l⟩
  | res1MemHL => exact ⟨_, .resAtHL 1⟩
  | res1A => exact ⟨_, .resReg 1 .a⟩
  | res2B => exact ⟨_, .resReg 2 .b⟩
  | res2C => exact ⟨_, .resReg 2 .c⟩
  | res2D => exact ⟨_, .resReg 2 .d⟩
  | res2E => exact ⟨_, .resReg 2 .e⟩
  | res2H => exact ⟨_, .resReg 2 .h⟩
  | res2L => exact ⟨_, .resReg 2 .l⟩
  | res2MemHL => exact ⟨_, .resAtHL 2⟩
  | res2A => exact ⟨_, .resReg 2 .a⟩
  | res3B => exact ⟨_, .resReg 3 .b⟩
  | res3C => exact ⟨_, .resReg 3 .c⟩
  | res3D => exact ⟨_, .resReg 3 .d⟩
  | res3E => exact ⟨_, .resReg 3 .e⟩
  | res3H => exact ⟨_, .resReg 3 .h⟩
  | res3L => exact ⟨_, .resReg 3 .l⟩
  | res3MemHL => exact ⟨_, .resAtHL 3⟩
  | res3A => exact ⟨_, .resReg 3 .a⟩
  | res4B => exact ⟨_, .resReg 4 .b⟩
  | res4C => exact ⟨_, .resReg 4 .c⟩
  | res4D => exact ⟨_, .resReg 4 .d⟩
  | res4E => exact ⟨_, .resReg 4 .e⟩
  | res4H => exact ⟨_, .resReg 4 .h⟩
  | res4L => exact ⟨_, .resReg 4 .l⟩
  | res4MemHL => exact ⟨_, .resAtHL 4⟩
  | res4A => exact ⟨_, .resReg 4 .a⟩
  | res5B => exact ⟨_, .resReg 5 .b⟩
  | res5C => exact ⟨_, .resReg 5 .c⟩
  | res5D => exact ⟨_, .resReg 5 .d⟩
  | res5E => exact ⟨_, .resReg 5 .e⟩
  | res5H => exact ⟨_, .resReg 5 .h⟩
  | res5L => exact ⟨_, .resReg 5 .l⟩
  | res5MemHL => exact ⟨_, .resAtHL 5⟩
  | res5A => exact ⟨_, .resReg 5 .a⟩
  | res6B => exact ⟨_, .resReg 6 .b⟩
  | res6C => exact ⟨_, .resReg 6 .c⟩
  | res6D => exact ⟨_, .resReg 6 .d⟩
  | res6E => exact ⟨_, .resReg 6 .e⟩
  | res6H => exact ⟨_, .resReg 6 .h⟩
  | res6L => exact ⟨_, .resReg 6 .l⟩
  | res6MemHL => exact ⟨_, .resAtHL 6⟩
  | res6A => exact ⟨_, .resReg 6 .a⟩
  | res7B => exact ⟨_, .resReg 7 .b⟩
  | res7C => exact ⟨_, .resReg 7 .c⟩
  | res7D => exact ⟨_, .resReg 7 .d⟩
  | res7E => exact ⟨_, .resReg 7 .e⟩
  | res7H => exact ⟨_, .resReg 7 .h⟩
  | res7L => exact ⟨_, .resReg 7 .l⟩
  | res7MemHL => exact ⟨_, .resAtHL 7⟩
  | res7A => exact ⟨_, .resReg 7 .a⟩
  | set0B => exact ⟨_, .setReg 0 .b⟩
  | set0C => exact ⟨_, .setReg 0 .c⟩
  | set0D => exact ⟨_, .setReg 0 .d⟩
  | set0E => exact ⟨_, .setReg 0 .e⟩
  | set0H => exact ⟨_, .setReg 0 .h⟩
  | set0L => exact ⟨_, .setReg 0 .l⟩
  | set0MemHL => exact ⟨_, .setAtHL 0⟩
  | set0A => exact ⟨_, .setReg 0 .a⟩
  | set1B => exact ⟨_, .setReg 1 .b⟩
  | set1C => exact ⟨_, .setReg 1 .c⟩
  | set1D => exact ⟨_, .setReg 1 .d⟩
  | set1E => exact ⟨_, .setReg 1 .e⟩
  | set1H => exact ⟨_, .setReg 1 .h⟩
  | set1L => exact ⟨_, .setReg 1 .l⟩
  | set1MemHL => exact ⟨_, .setAtHL 1⟩
  | set1A => exact ⟨_, .setReg 1 .a⟩
  | set2B => exact ⟨_, .setReg 2 .b⟩
  | set2C => exact ⟨_, .setReg 2 .c⟩
  | set2D => exact ⟨_, .setReg 2 .d⟩
  | set2E => exact ⟨_, .setReg 2 .e⟩
  | set2H => exact ⟨_, .setReg 2 .h⟩
  | set2L => exact ⟨_, .setReg 2 .l⟩
  | set2MemHL => exact ⟨_, .setAtHL 2⟩
  | set2A => exact ⟨_, .setReg 2 .a⟩
  | set3B => exact ⟨_, .setReg 3 .b⟩
  | set3C => exact ⟨_, .setReg 3 .c⟩
  | set3D => exact ⟨_, .setReg 3 .d⟩
  | set3E => exact ⟨_, .setReg 3 .e⟩
  | set3H => exact ⟨_, .setReg 3 .h⟩
  | set3L => exact ⟨_, .setReg 3 .l⟩
  | set3MemHL => exact ⟨_, .setAtHL 3⟩
  | set3A => exact ⟨_, .setReg 3 .a⟩
  | set4B => exact ⟨_, .setReg 4 .b⟩
  | set4C => exact ⟨_, .setReg 4 .c⟩
  | set4D => exact ⟨_, .setReg 4 .d⟩
  | set4E => exact ⟨_, .setReg 4 .e⟩
  | set4H => exact ⟨_, .setReg 4 .h⟩
  | set4L => exact ⟨_, .setReg 4 .l⟩
  | set4MemHL => exact ⟨_, .setAtHL 4⟩
  | set4A => exact ⟨_, .setReg 4 .a⟩
  | set5B => exact ⟨_, .setReg 5 .b⟩
  | set5C => exact ⟨_, .setReg 5 .c⟩
  | set5D => exact ⟨_, .setReg 5 .d⟩
  | set5E => exact ⟨_, .setReg 5 .e⟩
  | set5H => exact ⟨_, .setReg 5 .h⟩
  | set5L => exact ⟨_, .setReg 5 .l⟩
  | set5MemHL => exact ⟨_, .setAtHL 5⟩
  | set5A => exact ⟨_, .setReg 5 .a⟩
  | set6B => exact ⟨_, .setReg 6 .b⟩
  | set6C => exact ⟨_, .setReg 6 .c⟩
  | set6D => exact ⟨_, .setReg 6 .d⟩
  | set6E => exact ⟨_, .setReg 6 .e⟩
  | set6H => exact ⟨_, .setReg 6 .h⟩
  | set6L => exact ⟨_, .setReg 6 .l⟩
  | set6MemHL => exact ⟨_, .setAtHL 6⟩
  | set6A => exact ⟨_, .setReg 6 .a⟩
  | set7B => exact ⟨_, .setReg 7 .b⟩
  | set7C => exact ⟨_, .setReg 7 .c⟩
  | set7D => exact ⟨_, .setReg 7 .d⟩
  | set7E => exact ⟨_, .setReg 7 .e⟩
  | set7H => exact ⟨_, .setReg 7 .h⟩
  | set7L => exact ⟨_, .setReg 7 .l⟩
  | set7MemHL => exact ⟨_, .setAtHL 7⟩
  | set7A => exact ⟨_, .setReg 7 .a⟩

end Sys2Proof.Machine
end

