-- ==== Sys2Proof/Laws/Step.lean ====
section
/-! SUPPORT. What fetching can change, when it changes nothing, and all that a step can do. -/

namespace Sys2Proof.Machine

@[simp] theorem fetchBytes_length (n : Nat) (a : Word) (s : State) : (fetchBytes n a s).1.length = n := by
  induction n generalizing a s with
  | zero => rfl
  | succ n ih => simp [fetchBytes, ih]

/-- All that fetching bytes can change is the collaborator's history. -/
theorem fetchBytes_state (n : Nat) (a : Word) (s : State) : ∃ x, (fetchBytes n a s).2 = { s with ext := x } := by
  induction n generalizing a s with
  | zero => exact ⟨s.ext, rfl⟩
  | succ n ih =>
    obtain ⟨y, hy⟩ := ih (a + 1#16) (memRead s a).2
    exact ⟨y, hy.trans (by simp)⟩

/-- All that fetching an instruction can change is the collaborator's history. -/
theorem fetch_state (s : State) : ∃ x, (fetch s).2 = { s with ext := x } := by
  obtain ⟨y, hy⟩ := fetchBytes_state (formatLength (memRead s s.pc).1 - 1) (s.pc + 1#16) (memRead s s.pc).2
  exact ⟨y, hy.trans (by simp)⟩

/-- A read has no effect on the machine: no collaborator is attached, or the address has a cell. -/
theorem memRead_of_quiet {s : State} {a : Word} (h : s.ext = .absent ∨ hasCell a = true) :
    memRead s a = (peek s a, s) := by
  rcases h with h | h
  · exact memRead_of_absent h a
  · exact memRead_of_hasCell h

/-- Where the three bytes at PC have no read effect, fetching changes nothing and decodes them. -/
theorem fetch_of_quiet {s : State} (h0 : s.ext = .absent ∨ hasCell s.pc = true)
    (h1 : s.ext = .absent ∨ hasCell (s.pc + 1#16) = true) (h2 : s.ext = .absent ∨ hasCell (s.pc + 2#16) = true) :
    fetch s = (decodeBytes (peek s s.pc) (peek s (s.pc + 1#16)) (peek s (s.pc + 2#16)), s) := by
  have e0 := memRead_of_quiet h0
  have e1 := memRead_of_quiet h1
  have e2 := memRead_of_quiet h2
  have ha : s.pc + 1#16 + 1#16 = s.pc + 2#16 := by rw [BitVec.add_assoc]; rfl
  obtain ⟨hl, hu⟩ := formatLength_bounds (peek s s.pc)
  have hc : formatLength (peek s s.pc) = 1 ∨ formatLength (peek s s.pc) = 2 ∨ formatLength (peek s s.pc) = 3 := by
    omega
  rcases hc with hc | hc | hc
  · simp [fetch, e0, hc, fetchBytes]
    exact decodeBytes_of_length_one hc _ _ _ _
  · simp [fetch, e0, hc, fetchBytes, e1]
    exact decodeBytes_of_length_two hc _ _ _
  · simp [fetch, e0, hc, fetchBytes, e1, ha, e2]

/-- A step in Normal: the form of the fetched instruction, run in the state the fetch leaves, and the commit. -/
theorem step_of_normal {s : State} (h : s.run = .normal) {e : State → State} (he : Shape (fetch s).1 e) :
    step s = .next (if (e (fetch s).2).run = .locked then e (fetch s).2
      else commitEI s.imePending (e (fetch s).2)) := by
  simp only [step, h, exec_of_shape he, endStep]

/-- A step outside Normal. -/
theorem step_of_not_normal {s : State} (h : s.run ≠ .normal) : step s = .next (idleStep s) := by
  unfold step
  split
  · next hn => exact absurd hn h
  all_goals rfl

/-- All that a step can do. -/
theorem step_cases {s t : State} (h : step s = .next t) :
    (s.run ≠ .normal ∧ t = idleStep s) ∨
    (s.run = .normal ∧ ∃ e, Shape (fetch s).1 e ∧
      ((e (fetch s).2).run = .locked ∧ t = e (fetch s).2 ∨
       (e (fetch s).2).run ≠ .locked ∧ t = commitEI s.imePending (e (fetch s).2))) := by
  by_cases hn : s.run = .normal
  · obtain ⟨e, he⟩ := shape_of (fetch s).1
    rw [step_of_normal hn he, Host.Outcome.next.injEq] at h
    refine .inr ⟨hn, e, he, ?_⟩
    by_cases hl : (e (fetch s).2).run = .locked
    · exact .inl ⟨hl, by rw [← h, if_pos hl]⟩
    · exact .inr ⟨hl, by rw [← h, if_neg hl]⟩
  · rw [step_of_not_normal hn, Host.Outcome.next.injEq] at h
    exact .inl ⟨hn, h.symm⟩

end Sys2Proof.Machine
end

