-- ==== Sys2Proof/Laws/Frame.lean ====
section
/-! SUPPORT. What each instruction leaves unchanged, form by form: the run state, IME, IME_pending, the parameters, and
memory. -/

namespace Sys2Proof.Machine

theorem wellFormed_of_illegalByte {i : Instr} {b : Byte} (h : i.illegalByte = some b) : i.wellFormed = false := by
  simp [Instr.wellFormed, h]

/-- The run state is changed by `HALT`, `STOP` and the illegal bytes only. -/
theorem run_of_shape {i : Instr} {e : State → State} (he : Shape i e) (s : State) (h1 : i ≠ .halt)
    (h2 : ∀ n, i ≠ .stop n) (hw : i.wellFormed = true) : (e s).run = s.run := by
  cases he with
  | halt => exact absurd rfl h1
  | stop n => exact absurd rfl (h2 n)
  | illegal i b hb => rw [wellFormed_of_illegalByte hb] at hw; cases hw
  | _ =>
    simp [
        ldRegReg, ldRegN8, ldRegAtHL, ldAtHLReg, ldAtHLN8, ldAFrom, ldToA, ldAtHLAThen, ldAAtHLThen, ldR16N16,
        ldAtA16SP, memWrite16, ldSPFromHL, ldHLFromSP, pushPair, popPair, aluReg, aluAtHL, aluN8, aluInto,
        incReg, incAtHL, decReg, decAtHL, daaA, cplA, setCarry, complementCarry, addHLPair, incPair, decPair,
        addSPOffset, rotA, rotReg, rotAtHL, bitReg, bitAtHL, resReg, resAtHL, setReg, setAtHL, jumpAbs,
        jumpAbsIf, jumpHL, jumpRel, jumpRelIf, callAbs, callAbsIf, retPop, retPopIf, returnFromInterrupt,
        rstCall]
    try (split <;> simp)

/-- IME is changed by `DI` and `RETI` only. -/
theorem ime_of_shape {i : Instr} {e : State → State} (he : Shape i e) (s : State) (h1 : i ≠ .di) (h2 : i ≠ .reti) :
    (e s).ime = s.ime := by
  cases he with
  | di => exact absurd rfl h1
  | reti => exact absurd rfl h2
  | _ =>
    simp [
        ldRegReg, ldRegN8, ldRegAtHL, ldAtHLReg, ldAtHLN8, ldAFrom, ldToA, ldAtHLAThen, ldAAtHLThen, ldR16N16,
        ldAtA16SP, memWrite16, ldSPFromHL, ldHLFromSP, pushPair, popPair, aluReg, aluAtHL, aluN8, aluInto,
        incReg, incAtHL, decReg, decAtHL, daaA, cplA, setCarry, complementCarry, addHLPair, incPair, decPair,
        addSPOffset, rotA, rotReg, rotAtHL, bitReg, bitAtHL, resReg, resAtHL, setReg, setAtHL, jumpAbs,
        jumpAbsIf, jumpHL, jumpRel, jumpRelIf, callAbs, callAbsIf, retPop, retPopIf, rstCall]
    try (split <;> simp)

/-- IME_pending is changed by `DI` and `EI` only (and by the commit at the end of a step). -/
theorem imePending_of_shape {i : Instr} {e : State → State} (he : Shape i e) (s : State) (h1 : i ≠ .di)
    (h2 : i ≠ .ei) : (e s).imePending = s.imePending := by
  cases he with
  | di => exact absurd rfl h1
  | ei => exact absurd rfl h2
  | _ =>
    simp [
        ldRegReg, ldRegN8, ldRegAtHL, ldAtHLReg, ldAtHLN8, ldAFrom, ldToA, ldAtHLAThen, ldAAtHLThen, ldR16N16,
        ldAtA16SP, memWrite16, ldSPFromHL, ldHLFromSP, pushPair, popPair, aluReg, aluAtHL, aluN8, aluInto,
        incReg, incAtHL, decReg, decAtHL, daaA, cplA, setCarry, complementCarry, addHLPair, incPair, decPair,
        addSPOffset, rotA, rotReg, rotAtHL, bitReg, bitAtHL, resReg, resAtHL, setReg, setAtHL, jumpAbs,
        jumpAbsIf, jumpHL, jumpRel, jumpRelIf, callAbs, callAbsIf, retPop, retPopIf, returnFromInterrupt,
        rstCall]
    try (split <;> simp)

/-- No instruction changes the parameters. -/
theorem params_of_shape {i : Instr} {e : State → State} (he : Shape i e) (s : State) : (e s).params = s.params := by
  cases he with
  | _ =>
    simp [
        ldRegReg, ldRegN8, ldRegAtHL, ldAtHLReg, ldAtHLN8, ldAFrom, ldToA, ldAtHLAThen, ldAAtHLThen, ldR16N16,
        ldAtA16SP, memWrite16, ldSPFromHL, ldHLFromSP, pushPair, popPair, aluReg, aluAtHL, aluN8, aluInto,
        incReg, incAtHL, decReg, decAtHL, daaA, cplA, setCarry, complementCarry, addHLPair, incPair, decPair,
        addSPOffset, rotA, rotReg, rotAtHL, bitReg, bitAtHL, resReg, resAtHL, setReg, setAtHL, jumpAbs,
        jumpAbsIf, jumpHL, jumpRel, jumpRelIf, callAbs, callAbsIf, retPop, retPopIf, returnFromInterrupt,
        rstCall]
    try (split <;> simp)

/-- Memory `m'` is reached from `m` by byte writes of the core. -/
inductive Written : List Host.Cell → List Host.Cell → Prop
  | refl (m : List Host.Cell) : Written m m
  | write {m : List Host.Cell} (s : State) (a : Word) (v : Byte) (h : Written m s.mem) : Written m (memWrite s a v).mem

theorem written_memWrite {m : List Host.Cell} {s : State} (h : s.mem = m) (a : Word) (v : Byte) :
    Written m (memWrite s a v).mem := .write s a v (h ▸ .refl _)

theorem written_push16 (s : State) (v : Word) : Written s.mem (push16 s v).mem := by
  rw [push16_eq]
  exact .write _ _ _ (.write s _ _ (.refl _))

theorem written_of_eq {m m' : List Host.Cell} (h : m' = m) : Written m m' := h ▸ .refl _

/-- Every instruction changes memory by byte writes of the core only. -/
theorem written_of_shape {i : Instr} {e : State → State} (he : Shape i e) (s : State) : Written s.mem (e s).mem := by
  cases he with
  | ldAtA16SP a => exact .write _ _ _ (.write s _ _ (.refl _))
  | ldAtHLReg | ldAtHLN8 | ldMemBCA | ldMemDEA | ldMemA16A | ldhMemA8A | ldhMemCA => exact written_memWrite rfl _ _
  | ldMemHLIncA | ldMemHLDecA => simp only [ldAtHLAThen, finish_mem, setR16_mem]; exact written_memWrite rfl _ _
  | incAtHL => simp only [incAtHL, finish_mem, setFlags_mem]; exact written_memWrite (by simp) _ _
  | decAtHL => simp only [decAtHL, finish_mem, setFlags_mem]; exact written_memWrite (by simp) _ _
  | rotAtHL => simp only [rotAtHL, finish_mem, setFlags_mem]; exact written_memWrite (by simp) _ _
  | resAtHL => simp only [resAtHL, finish_mem]; exact written_memWrite (by simp) _ _
  | setAtHL => simp only [setAtHL, finish_mem]; exact written_memWrite (by simp) _ _
  | pushPair p => exact written_push16 _ _
  | callAbs a => exact written_push16 _ _
  | rstCall t => exact written_push16 _ _
  | callAbsIf cc a =>
    simp only [callAbsIf]
    split
    · exact written_push16 _ _
    · exact .refl _
  | _ =>
    apply written_of_eq
    simp [
        ldRegReg, ldRegN8, ldRegAtHL, ldAFrom, ldAAtHLThen, ldR16N16, ldSPFromHL, ldHLFromSP, popPair, aluReg,
        aluAtHL, aluN8, aluInto, incReg, decReg, daaA, cplA, setCarry, complementCarry, addHLPair, incPair,
        decPair, addSPOffset, rotA, rotReg, bitReg, bitAtHL, resReg, setReg, jumpAbs, jumpAbsIf, jumpHL,
        jumpRel, jumpRelIf, retPop, retPopIf, returnFromInterrupt]
    try (split <;> simp)

/-- Byte writes keep memory canonical and within the cells that exist. -/
theorem written_keeps {m m' : List Host.Cell} (h : Written m m') (hw : Memory.wf m = true)
    (hc : Memory.inCells m = true) : Memory.wf m' = true ∧ Memory.inCells m' = true := by
  induction h with
  | refl => exact ⟨hw, hc⟩
  | write s a v h ih => exact memWrite_keeps ih.1 ih.2 a v

/-- Byte writes never change a cell of the ROM window. -/
theorem written_rom {m m' : List Host.Cell} (h : Written m m') {k : Nat} (hk : k < 0x8000) :
    Memory.get m' k = Memory.get m k := by
  induction h with
  | refl => rfl
  | write s a v h ih =>
    rcases memWrite_cases s a v with hm | ⟨j, hj, hm⟩ | ⟨_, hist, _, hm⟩ <;> rw [hm]
    · exact ih
    · refine (Memory.get_set_ne _ _ ?_).trans ih
      have := route_ram_bounds hj
      omega
    · exact ih

/-- With no collaborator attached, none is attached by a read or a write. -/
theorem memRead_absent {s : State} (h : s.ext = .absent) (a : Word) : (memRead s a).2.ext = .absent := by
  rw [memRead_of_absent h]; exact h

theorem memWrite_absent {s : State} (h : s.ext = .absent) (a : Word) (v : Byte) : (memWrite s a v).ext = .absent := by
  rcases memWrite_cases s a v with e | ⟨k, _, e⟩ | ⟨_, hist, he, _⟩
  · rw [e]; exact h
  · rw [e]; exact h
  · rw [h] at he; cases he

theorem push8_absent {s : State} (h : s.ext = .absent) (v : Byte) : (push8 s v).ext = .absent :=
  memWrite_absent (s := { s with sp := s.sp - 1#16 }) h _ _

theorem push16_absent {s : State} (h : s.ext = .absent) (v : Word) : (push16 s v).ext = .absent :=
  push8_absent (push8_absent h _) _

theorem pop8_absent {s : State} (h : s.ext = .absent) : (pop8 s).2.ext = .absent := memRead_absent h _

theorem pop16_absent {s : State} (h : s.ext = .absent) : (pop16 s).2.ext = .absent := pop8_absent (pop8_absent h)

/-- No instruction attaches a collaborator. -/
theorem ext_of_shape {i : Instr} {e : State → State} (he : Shape i e) {s : State} (h : s.ext = .absent) :
    (e s).ext = .absent := by
  cases he with
  | callAbsIf cc a =>
    simp only [callAbsIf]
    split
    · exact push16_absent h _
    · exact h
  | retPopIf cc =>
    simp only [retPopIf]
    split
    · exact pop16_absent h
    · exact h
  | _ =>
    simp [
        ldRegReg, ldRegN8, ldRegAtHL, ldAtHLReg, ldAtHLN8, ldAFrom, ldToA, ldAtHLAThen, ldAAtHLThen, ldR16N16,
        ldAtA16SP, memWrite16, ldSPFromHL, ldHLFromSP, pushPair, popPair, aluReg, aluAtHL, aluN8, aluInto,
        incReg, incAtHL, decReg, decAtHL, daaA, cplA, setCarry, complementCarry, addHLPair, incPair, decPair,
        addSPOffset, rotA, rotReg, rotAtHL, bitReg, bitAtHL, resReg, resAtHL, setReg, setAtHL, jumpAbs,
        jumpAbsIf, jumpHL, jumpRel, jumpRelIf, callAbs, retPop, returnFromInterrupt, rstCall,
        memRead_absent, memWrite_absent, push16_absent, pop16_absent, h]
    try (split <;> simp [memRead_absent, h])

section
variable (s : State)

@[simp] theorem fetch_f : (fetch s).2.f = s.f := by obtain ⟨x, h⟩ := fetch_state s; rw [h]
@[simp] theorem fetch_run : (fetch s).2.run = s.run := by obtain ⟨x, h⟩ := fetch_state s; rw [h]
@[simp] theorem fetch_ime : (fetch s).2.ime = s.ime := by obtain ⟨x, h⟩ := fetch_state s; rw [h]
@[simp] theorem fetch_imePending : (fetch s).2.imePending = s.imePending := by
  obtain ⟨x, h⟩ := fetch_state s; rw [h]
@[simp] theorem fetch_params : (fetch s).2.params = s.params := by obtain ⟨x, h⟩ := fetch_state s; rw [h]
@[simp] theorem fetch_mem : (fetch s).2.mem = s.mem := by obtain ⟨x, h⟩ := fetch_state s; rw [h]

@[simp] theorem commitEI_f (p : Bool) : (commitEI p s).f = s.f := by
  rcases commitEI_cases s p with h | ⟨_, _, h⟩ <;> rw [h]
@[simp] theorem commitEI_mem (p : Bool) : (commitEI p s).mem = s.mem := by
  rcases commitEI_cases s p with h | ⟨_, _, h⟩ <;> rw [h]
@[simp] theorem commitEI_run (p : Bool) : (commitEI p s).run = s.run := by
  rcases commitEI_cases s p with h | ⟨_, _, h⟩ <;> rw [h]
@[simp] theorem commitEI_params (p : Bool) : (commitEI p s).params = s.params := by
  rcases commitEI_cases s p with h | ⟨_, _, h⟩ <;> rw [h]

end

end Sys2Proof.Machine
end

