-- ==== Sys2Proof/Laws/PerInstr.lean ====
section
/-! SUPPORT. Per instruction: the encoding has the length its first byte announces (spec/30_encoding.md R70). -/

namespace Sys2Proof.Laws.EncodeLength

/-- The encoding of the instruction begins with a byte that announces exactly its length. -/
def Statement (i : Instr) : Prop := ∃ b0 more, encode i = b0 :: more ∧ more.length + 1 = formatLength b0

theorem nop : Statement .nop := ⟨_, _, rfl, rfl⟩
theorem ldBCN16 (n : Word) : Statement (.ldBCN16 n) := ⟨_, _, rfl, rfl⟩
theorem ldMemBCA : Statement .ldMemBCA := ⟨_, _, rfl, rfl⟩
theorem incBC : Statement .incBC := ⟨_, _, rfl, rfl⟩
theorem incB : Statement .incB := ⟨_, _, rfl, rfl⟩
theorem decB : Statement .decB := ⟨_, _, rfl, rfl⟩
theorem ldBN8 (n : Byte) : Statement (.ldBN8 n) := ⟨_, _, rfl, rfl⟩
theorem rlca : Statement .rlca := ⟨_, _, rfl, rfl⟩
theorem ldMemA16SP (a : Word) : Statement (.ldMemA16SP a) := ⟨_, _, rfl, rfl⟩
theorem addHLBC : Statement .addHLBC := ⟨_, _, rfl, rfl⟩
theorem ldAMemBC : Statement .ldAMemBC := ⟨_, _, rfl, rfl⟩
theorem decBC : Statement .decBC := ⟨_, _, rfl, rfl⟩
theorem incC : Statement .incC := ⟨_, _, rfl, rfl⟩
theorem decC : Statement .decC := ⟨_, _, rfl, rfl⟩
theorem ldCN8 (n : Byte) : Statement (.ldCN8 n) := ⟨_, _, rfl, rfl⟩
theorem rrca : Statement .rrca := ⟨_, _, rfl, rfl⟩
theorem stop (n : Byte) : Statement (.stop n) := ⟨_, _, rfl, rfl⟩
theorem ldDEN16 (n : Word) : Statement (.ldDEN16 n) := ⟨_, _, rfl, rfl⟩
theorem ldMemDEA : Statement .ldMemDEA := ⟨_, _, rfl, rfl⟩
theorem incDE : Statement .incDE := ⟨_, _, rfl, rfl⟩
theorem incD : Statement .incD := ⟨_, _, rfl, rfl⟩
theorem decD : Statement .decD := ⟨_, _, rfl, rfl⟩
theorem ldDN8 (n : Byte) : Statement (.ldDN8 n) := ⟨_, _, rfl, rfl⟩
theorem rla : Statement .rla := ⟨_, _, rfl, rfl⟩
theorem jrE8 (e : Byte) : Statement (.jrE8 e) := ⟨_, _, rfl, rfl⟩
theorem addHLDE : Statement .addHLDE := ⟨_, _, rfl, rfl⟩
theorem ldAMemDE : Statement .ldAMemDE := ⟨_, _, rfl, rfl⟩
theorem decDE : Statement .decDE := ⟨_, _, rfl, rfl⟩
theorem incE : Statement .incE := ⟨_, _, rfl, rfl⟩
theorem decE : Statement .decE := ⟨_, _, rfl, rfl⟩
theorem ldEN8 (n : Byte) : Statement (.ldEN8 n) := ⟨_, _, rfl, rfl⟩
theorem rra : Statement .rra := ⟨_, _, rfl, rfl⟩
theorem jrNZE8 (e : Byte) : Statement (.jrNZE8 e) := ⟨_, _, rfl, rfl⟩
theorem ldHLN16 (n : Word) : Statement (.ldHLN16 n) := ⟨_, _, rfl, rfl⟩
theorem ldMemHLIncA : Statement .ldMemHLIncA := ⟨_, _, rfl, rfl⟩
theorem incHL : Statement .incHL := ⟨_, _, rfl, rfl⟩
theorem incH : Statement .incH := ⟨_, _, rfl, rfl⟩
theorem decH : Statement .decH := ⟨_, _, rfl, rfl⟩
theorem ldHN8 (n : Byte) : Statement (.ldHN8 n) := ⟨_, _, rfl, rfl⟩
theorem daa : Statement .daa := ⟨_, _, rfl, rfl⟩
theorem jrZE8 (e : Byte) : Statement (.jrZE8 e) := ⟨_, _, rfl, rfl⟩
theorem addHLHL : Statement .addHLHL := ⟨_, _, rfl, rfl⟩
theorem ldAMemHLInc : Statement .ldAMemHLInc := ⟨_, _, rfl, rfl⟩
theorem decHL : Statement .decHL := ⟨_, _, rfl, rfl⟩
theorem incL : Statement .incL := ⟨_, _, rfl, rfl⟩
theorem decL : Statement .decL := ⟨_, _, rfl, rfl⟩
theorem ldLN8 (n : Byte) : Statement (.ldLN8 n) := ⟨_, _, rfl, rfl⟩
theorem cpl : Statement .cpl := ⟨_, _, rfl, rfl⟩
theorem jrNCE8 (e : Byte) : Statement (.jrNCE8 e) := ⟨_, _, rfl, rfl⟩
theorem ldSPN16 (n : Word) : Statement (.ldSPN16 n) := ⟨_, _, rfl, rfl⟩
theorem ldMemHLDecA : Statement .ldMemHLDecA := ⟨_, _, rfl, rfl⟩
theorem incSP : Statement .incSP := ⟨_, _, rfl, rfl⟩
theorem incMemHL : Statement .incMemHL := ⟨_, _, rfl, rfl⟩
theorem decMemHL : Statement .decMemHL := ⟨_, _, rfl, rfl⟩
theorem ldMemHLN8 (n : Byte) : Statement (.ldMemHLN8 n) := ⟨_, _, rfl, rfl⟩
theorem scf : Statement .scf := ⟨_, _, rfl, rfl⟩
theorem jrCE8 (e : Byte) : Statement (.jrCE8 e) := ⟨_, _, rfl, rfl⟩
theorem addHLSP : Statement .addHLSP := ⟨_, _, rfl, rfl⟩
theorem ldAMemHLDec : Statement .ldAMemHLDec := ⟨_, _, rfl, rfl⟩
theorem decSP : Statement .decSP := ⟨_, _, rfl, rfl⟩
theorem incA : Statement .incA := ⟨_, _, rfl, rfl⟩
theorem decA : Statement .decA := ⟨_, _, rfl, rfl⟩
theorem ldAN8 (n : Byte) : Statement (.ldAN8 n) := ⟨_, _, rfl, rfl⟩
theorem ccf : Statement .ccf := ⟨_, _, rfl, rfl⟩
theorem ldBB : Statement .ldBB := ⟨_, _, rfl, rfl⟩
theorem ldBC : Statement .ldBC := ⟨_, _, rfl, rfl⟩
theorem ldBD : Statement .ldBD := ⟨_, _, rfl, rfl⟩
theorem ldBE : Statement .ldBE := ⟨_, _, rfl, rfl⟩
theorem ldBH : Statement .ldBH := ⟨_, _, rfl, rfl⟩
theorem ldBL : Statement .ldBL := ⟨_, _, rfl, rfl⟩
theorem ldBMemHL : Statement .ldBMemHL := ⟨_, _, rfl, rfl⟩
theorem ldBA : Statement .ldBA := ⟨_, _, rfl, rfl⟩
theorem ldCB : Statement .ldCB := ⟨_, _, rfl, rfl⟩
theorem ldCC : Statement .ldCC := ⟨_, _, rfl, rfl⟩
theorem ldCD : Statement .ldCD := ⟨_, _, rfl, rfl⟩
theorem ldCE : Statement .ldCE := ⟨_, _, rfl, rfl⟩
theorem ldCH : Statement .ldCH := ⟨_, _, rfl, rfl⟩
theorem ldCL : Statement .ldCL := ⟨_, _, rfl, rfl⟩
theorem ldCMemHL : Statement .ldCMemHL := ⟨_, _, rfl, rfl⟩
theorem ldCA : Statement .ldCA := ⟨_, _, rfl, rfl⟩
theorem ldDB : Statement .ldDB := ⟨_, _, rfl, rfl⟩
theorem ldDC : Statement .ldDC := ⟨_, _, rfl, rfl⟩
theorem ldDD : Statement .ldDD := ⟨_, _, rfl, rfl⟩
theorem ldDE : Statement .ldDE := ⟨_, _, rfl, rfl⟩
theorem ldDH : Statement .ldDH := ⟨_, _, rfl, rfl⟩
theorem ldDL : Statement .ldDL := ⟨_, _, rfl, rfl⟩
theorem ldDMemHL : Statement .ldDMemHL := ⟨_, _, rfl, rfl⟩
theorem ldDA : Statement .ldDA := ⟨_, _, rfl, rfl⟩
theorem ldEB : Statement .ldEB := ⟨_, _, rfl, rfl⟩
theorem ldEC : Statement .ldEC := ⟨_, _, rfl, rfl⟩
theorem ldED : Statement .ldED := ⟨_, _, rfl, rfl⟩
theorem ldEE : Statement .ldEE := ⟨_, _, rfl, rfl⟩
theorem ldEH : Statement .ldEH := ⟨_, _, rfl, rfl⟩
theorem ldEL : Statement .ldEL := ⟨_, _, rfl, rfl⟩
theorem ldEMemHL : Statement .ldEMemHL := ⟨_, _, rfl, rfl⟩
theorem ldEA : Statement .ldEA := ⟨_, _, rfl, rfl⟩
theorem ldHB : Statement .ldHB := ⟨_, _, rfl, rfl⟩
theorem ldHC : Statement .ldHC := ⟨_, _, rfl, rfl⟩
theorem ldHD : Statement .ldHD := ⟨_, _, rfl, rfl⟩
theorem ldHE : Statement .ldHE := ⟨_, _, rfl, rfl⟩
theorem ldHH : Statement .ldHH := ⟨_, _, rfl, rfl⟩
theorem ldHL : Statement .ldHL := ⟨_, _, rfl, rfl⟩
theorem ldHMemHL : Statement .ldHMemHL := ⟨_, _, rfl, rfl⟩
theorem ldHA : Statement .ldHA := ⟨_, _, rfl, rfl⟩
theorem ldLB : Statement .ldLB := ⟨_, _, rfl, rfl⟩
theorem ldLC : Statement .ldLC := ⟨_, _, rfl, rfl⟩
theorem ldLD : Statement .ldLD := ⟨_, _, rfl, rfl⟩
theorem ldLE : Statement .ldLE := ⟨_, _, rfl, rfl⟩
theorem ldLH : Statement .ldLH := ⟨_, _, rfl, rfl⟩
theorem ldLL : Statement .ldLL := ⟨_, _, rfl, rfl⟩
theorem ldLMemHL : Statement .ldLMemHL := ⟨_, _, rfl, rfl⟩
theorem ldLA : Statement .ldLA := ⟨_, _, rfl, rfl⟩
theorem ldMemHLB : Statement .ldMemHLB := ⟨_, _, rfl, rfl⟩
theorem ldMemHLC : Statement .ldMemHLC := ⟨_, _, rfl, rfl⟩
theorem ldMemHLD : Statement .ldMemHLD := ⟨_, _, rfl, rfl⟩
theorem ldMemHLE : Statement .ldMemHLE := ⟨_, _, rfl, rfl⟩
theorem ldMemHLH : Statement .ldMemHLH := ⟨_, _, rfl, rfl⟩
theorem ldMemHLL : Statement .ldMemHLL := ⟨_, _, rfl, rfl⟩
theorem halt : Statement .halt := ⟨_, _, rfl, rfl⟩
theorem ldMemHLA : Statement .ldMemHLA := ⟨_, _, rfl, rfl⟩
theorem ldAB : Statement .ldAB := ⟨_, _, rfl, rfl⟩
theorem ldAC : Statement .ldAC := ⟨_, _, rfl, rfl⟩
theorem ldAD : Statement .ldAD := ⟨_, _, rfl, rfl⟩
theorem ldAE : Statement .ldAE := ⟨_, _, rfl, rfl⟩
theorem ldAH : Statement .ldAH := ⟨_, _, rfl, rfl⟩
theorem ldAL : Statement .ldAL := ⟨_, _, rfl, rfl⟩
theorem ldAMemHL : Statement .ldAMemHL := ⟨_, _, rfl, rfl⟩
theorem ldAA : Statement .ldAA := ⟨_, _, rfl, rfl⟩
theorem addAB : Statement .addAB := ⟨_, _, rfl, rfl⟩
theorem addAC : Statement .addAC := ⟨_, _, rfl, rfl⟩
theorem addAD : Statement .addAD := ⟨_, _, rfl, rfl⟩
theorem addAE : Statement .addAE := ⟨_, _, rfl, rfl⟩
theorem addAH : Statement .addAH := ⟨_, _, rfl, rfl⟩
theorem addAL : Statement .addAL := ⟨_, _, rfl, rfl⟩
theorem addAMemHL : Statement .addAMemHL := ⟨_, _, rfl, rfl⟩
theorem addAA : Statement .addAA := ⟨_, _, rfl, rfl⟩
theorem adcAB : Statement .adcAB := ⟨_, _, rfl, rfl⟩
theorem adcAC : Statement .adcAC := ⟨_, _, rfl, rfl⟩
theorem adcAD : Statement .adcAD := ⟨_, _, rfl, rfl⟩
theorem adcAE : Statement .adcAE := ⟨_, _, rfl, rfl⟩
theorem adcAH : Statement .adcAH := ⟨_, _, rfl, rfl⟩
theorem adcAL : Statement .adcAL := ⟨_, _, rfl, rfl⟩
theorem adcAMemHL : Statement .adcAMemHL := ⟨_, _, rfl, rfl⟩
theorem adcAA : Statement .adcAA := ⟨_, _, rfl, rfl⟩
theorem subAB : Statement .subAB := ⟨_, _, rfl, rfl⟩
theorem subAC : Statement .subAC := ⟨_, _, rfl, rfl⟩
theorem subAD : Statement .subAD := ⟨_, _, rfl, rfl⟩
theorem subAE : Statement .subAE := ⟨_, _, rfl, rfl⟩
theorem subAH : Statement .subAH := ⟨_, _, rfl, rfl⟩
theorem subAL : Statement .subAL := ⟨_, _, rfl, rfl⟩
theorem subAMemHL : Statement .subAMemHL := ⟨_, _, rfl, rfl⟩
theorem subAA : Statement .subAA := ⟨_, _, rfl, rfl⟩
theorem sbcAB : Statement .sbcAB := ⟨_, _, rfl, rfl⟩
theorem sbcAC : Statement .sbcAC := ⟨_, _, rfl, rfl⟩
theorem sbcAD : Statement .sbcAD := ⟨_, _, rfl, rfl⟩
theorem sbcAE : Statement .sbcAE := ⟨_, _, rfl, rfl⟩
theorem sbcAH : Statement .sbcAH := ⟨_, _, rfl, rfl⟩
theorem sbcAL : Statement .sbcAL := ⟨_, _, rfl, rfl⟩
theorem sbcAMemHL : Statement .sbcAMemHL := ⟨_, _, rfl, rfl⟩
theorem sbcAA : Statement .sbcAA := ⟨_, _, rfl, rfl⟩
theorem andAB : Statement .andAB := ⟨_, _, rfl, rfl⟩
theorem andAC : Statement .andAC := ⟨_, _, rfl, rfl⟩
theorem andAD : Statement .andAD := ⟨_, _, rfl, rfl⟩
theorem andAE : Statement .andAE := ⟨_, _, rfl, rfl⟩
theorem andAH : Statement .andAH := ⟨_, _, rfl, rfl⟩
theorem andAL : Statement .andAL := ⟨_, _, rfl, rfl⟩
theorem andAMemHL : Statement .andAMemHL := ⟨_, _, rfl, rfl⟩
theorem andAA : Statement .andAA := ⟨_, _, rfl, rfl⟩
theorem xorAB : Statement .xorAB := ⟨_, _, rfl, rfl⟩
theorem xorAC : Statement .xorAC := ⟨_, _, rfl, rfl⟩
theorem xorAD : Statement .xorAD := ⟨_, _, rfl, rfl⟩
theorem xorAE : Statement .xorAE := ⟨_, _, rfl, rfl⟩
theorem xorAH : Statement .xorAH := ⟨_, _, rfl, rfl⟩
theorem xorAL : Statement .xorAL := ⟨_, _, rfl, rfl⟩
theorem xorAMemHL : Statement .xorAMemHL := ⟨_, _, rfl, rfl⟩
theorem xorAA : Statement .xorAA := ⟨_, _, rfl, rfl⟩
theorem orAB : Statement .orAB := ⟨_, _, rfl, rfl⟩
theorem orAC : Statement .orAC := ⟨_, _, rfl, rfl⟩
theorem orAD : Statement .orAD := ⟨_, _, rfl, rfl⟩
theorem orAE : Statement .orAE := ⟨_, _, rfl, rfl⟩
theorem orAH : Statement .orAH := ⟨_, _, rfl, rfl⟩
theorem orAL : Statement .orAL := ⟨_, _, rfl, rfl⟩
theorem orAMemHL : Statement .orAMemHL := ⟨_, _, rfl, rfl⟩
theorem orAA : Statement .orAA := ⟨_, _, rfl, rfl⟩
theorem cpAB : Statement .cpAB := ⟨_, _, rfl, rfl⟩
theorem cpAC : Statement .cpAC := ⟨_, _, rfl, rfl⟩
theorem cpAD : Statement .cpAD := ⟨_, _, rfl, rfl⟩
theorem cpAE : Statement .cpAE := ⟨_, _, rfl, rfl⟩
theorem cpAH : Statement .cpAH := ⟨_, _, rfl, rfl⟩
theorem cpAL : Statement .cpAL := ⟨_, _, rfl, rfl⟩
theorem cpAMemHL : Statement .cpAMemHL := ⟨_, _, rfl, rfl⟩
theorem cpAA : Statement .cpAA := ⟨_, _, rfl, rfl⟩
theorem retNZ : Statement .retNZ := ⟨_, _, rfl, rfl⟩
theorem popBC : Statement .popBC := ⟨_, _, rfl, rfl⟩
theorem jpNZA16 (a : Word) : Statement (.jpNZA16 a) := ⟨_, _, rfl, rfl⟩
theorem jpA16 (a : Word) : Statement (.jpA16 a) := ⟨_, _, rfl, rfl⟩
theorem callNZA16 (a : Word) : Statement (.callNZA16 a) := ⟨_, _, rfl, rfl⟩
theorem pushBC : Statement .pushBC := ⟨_, _, rfl, rfl⟩
theorem addAN8 (n : Byte) : Statement (.addAN8 n) := ⟨_, _, rfl, rfl⟩
theorem rst00 : Statement .rst00 := ⟨_, _, rfl, rfl⟩
theorem retZ : Statement .retZ := ⟨_, _, rfl, rfl⟩
theorem ret : Statement .ret := ⟨_, _, rfl, rfl⟩
theorem jpZA16 (a : Word) : Statement (.jpZA16 a) := ⟨_, _, rfl, rfl⟩
theorem callZA16 (a : Word) : Statement (.callZA16 a) := ⟨_, _, rfl, rfl⟩
theorem callA16 (a : Word) : Statement (.callA16 a) := ⟨_, _, rfl, rfl⟩
theorem adcAN8 (n : Byte) : Statement (.adcAN8 n) := ⟨_, _, rfl, rfl⟩
theorem rst08 : Statement .rst08 := ⟨_, _, rfl, rfl⟩
theorem retNC : Statement .retNC := ⟨_, _, rfl, rfl⟩
theorem popDE : Statement .popDE := ⟨_, _, rfl, rfl⟩
theorem jpNCA16 (a : Word) : Statement (.jpNCA16 a) := ⟨_, _, rfl, rfl⟩
theorem illegalD3 : Statement .illegalD3 := ⟨_, _, rfl, rfl⟩
theorem callNCA16 (a : Word) : Statement (.callNCA16 a) := ⟨_, _, rfl, rfl⟩
theorem pushDE : Statement .pushDE := ⟨_, _, rfl, rfl⟩
theorem subAN8 (n : Byte) : Statement (.subAN8 n) := ⟨_, _, rfl, rfl⟩
theorem rst10 : Statement .rst10 := ⟨_, _, rfl, rfl⟩
theorem retC : Statement .retC := ⟨_, _, rfl, rfl⟩
theorem reti : Statement .reti := ⟨_, _, rfl, rfl⟩
theorem jpCA16 (a : Word) : Statement (.jpCA16 a) := ⟨_, _, rfl, rfl⟩
theorem illegalDB : Statement .illegalDB := ⟨_, _, rfl, rfl⟩
theorem callCA16 (a : Word) : Statement (.callCA16 a) := ⟨_, _, rfl, rfl⟩
theorem illegalDD : Statement .illegalDD := ⟨_, _, rfl, rfl⟩
theorem sbcAN8 (n : Byte) : Statement (.sbcAN8 n) := ⟨_, _, rfl, rfl⟩
theorem rst18 : Statement .rst18 := ⟨_, _, rfl, rfl⟩
theorem ldhMemA8A (a : Byte) : Statement (.ldhMemA8A a) := ⟨_, _, rfl, rfl⟩
theorem popHL : Statement .popHL := ⟨_, _, rfl, rfl⟩
theorem ldhMemCA : Statement .ldhMemCA := ⟨_, _, rfl, rfl⟩
theorem illegalE3 : Statement .illegalE3 := ⟨_, _, rfl, rfl⟩
theorem illegalE4 : Statement .illegalE4 := ⟨_, _, rfl, rfl⟩
theorem pushHL : Statement .pushHL := ⟨_, _, rfl, rfl⟩
theorem andAN8 (n : Byte) : Statement (.andAN8 n) := ⟨_, _, rfl, rfl⟩
theorem rst20 : Statement .rst20 := ⟨_, _, rfl, rfl⟩
theorem addSPE8 (e : Byte) : Statement (.addSPE8 e) := ⟨_, _, rfl, rfl⟩
theorem jpHL : Statement .jpHL := ⟨_, _, rfl, rfl⟩
theorem ldMemA16A (a : Word) : Statement (.ldMemA16A a) := ⟨_, _, rfl, rfl⟩
theorem illegalEB : Statement .illegalEB := ⟨_, _, rfl, rfl⟩
theorem illegalEC : Statement .illegalEC := ⟨_, _, rfl, rfl⟩
theorem illegalED : Statement .illegalED := ⟨_, _, rfl, rfl⟩
theorem xorAN8 (n : Byte) : Statement (.xorAN8 n) := ⟨_, _, rfl, rfl⟩
theorem rst28 : Statement .rst28 := ⟨_, _, rfl, rfl⟩
theorem ldhAMemA8 (a : Byte) : Statement (.ldhAMemA8 a) := ⟨_, _, rfl, rfl⟩
theorem popAF : Statement .popAF := ⟨_, _, rfl, rfl⟩
theorem ldhAMemC : Statement .ldhAMemC := ⟨_, _, rfl, rfl⟩
theorem di : Statement .di := ⟨_, _, rfl, rfl⟩
theorem illegalF4 : Statement .illegalF4 := ⟨_, _, rfl, rfl⟩
theorem pushAF : Statement .pushAF := ⟨_, _, rfl, rfl⟩
theorem orAN8 (n : Byte) : Statement (.orAN8 n) := ⟨_, _, rfl, rfl⟩
theorem rst30 : Statement .rst30 := ⟨_, _, rfl, rfl⟩
theorem ldHLSPE8 (e : Byte) : Statement (.ldHLSPE8 e) := ⟨_, _, rfl, rfl⟩
theorem ldSPHL : Statement .ldSPHL := ⟨_, _, rfl, rfl⟩
theorem ldAMemA16 (a : Word) : Statement (.ldAMemA16 a) := ⟨_, _, rfl, rfl⟩
theorem ei : Statement .ei := ⟨_, _, rfl, rfl⟩
theorem illegalFC : Statement .illegalFC := ⟨_, _, rfl, rfl⟩
theorem illegalFD : Statement .illegalFD := ⟨_, _, rfl, rfl⟩
theorem cpAN8 (n : Byte) : Statement (.cpAN8 n) := ⟨_, _, rfl, rfl⟩
theorem rst38 : Statement .rst38 := ⟨_, _, rfl, rfl⟩
theorem cbRlcB : Statement .cbRlcB := ⟨_, _, rfl, rfl⟩
theorem cbRlcC : Statement .cbRlcC := ⟨_, _, rfl, rfl⟩
theorem cbRlcD : Statement .cbRlcD := ⟨_, _, rfl, rfl⟩
theorem cbRlcE : Statement .cbRlcE := ⟨_, _, rfl, rfl⟩
theorem cbRlcH : Statement .cbRlcH := ⟨_, _, rfl, rfl⟩
theorem cbRlcL : Statement .cbRlcL := ⟨_, _, rfl, rfl⟩
theorem cbRlcMemHL : Statement .cbRlcMemHL := ⟨_, _, rfl, rfl⟩
theorem cbRlcA : Statement .cbRlcA := ⟨_, _, rfl, rfl⟩
theorem cbRrcB : Statement .cbRrcB := ⟨_, _, rfl, rfl⟩
theorem cbRrcC : Statement .cbRrcC := ⟨_, _, rfl, rfl⟩
theorem cbRrcD : Statement .cbRrcD := ⟨_, _, rfl, rfl⟩
theorem cbRrcE : Statement .cbRrcE := ⟨_, _, rfl, rfl⟩
theorem cbRrcH : Statement .cbRrcH := ⟨_, _, rfl, rfl⟩
theorem cbRrcL : Statement .cbRrcL := ⟨_, _, rfl, rfl⟩
theorem cbRrcMemHL : Statement .cbRrcMemHL := ⟨_, _, rfl, rfl⟩
theorem cbRrcA : Statement .cbRrcA := ⟨_, _, rfl, rfl⟩
theorem cbRlB : Statement .cbRlB := ⟨_, _, rfl, rfl⟩
theorem cbRlC : Statement .cbRlC := ⟨_, _, rfl, rfl⟩
theorem cbRlD : Statement .cbRlD := ⟨_, _, rfl, rfl⟩
theorem cbRlE : Statement .cbRlE := ⟨_, _, rfl, rfl⟩
theorem cbRlH : Statement .cbRlH := ⟨_, _, rfl, rfl⟩
theorem cbRlL : Statement .cbRlL := ⟨_, _, rfl, rfl⟩
theorem cbRlMemHL : Statement .cbRlMemHL := ⟨_, _, rfl, rfl⟩
theorem cbRlA : Statement .cbRlA := ⟨_, _, rfl, rfl⟩
theorem cbRrB : Statement .cbRrB := ⟨_, _, rfl, rfl⟩
theorem cbRrC : Statement .cbRrC := ⟨_, _, rfl, rfl⟩
theorem cbRrD : Statement .cbRrD := ⟨_, _, rfl, rfl⟩
theorem cbRrE : Statement .cbRrE := ⟨_, _, rfl, rfl⟩
theorem cbRrH : Statement .cbRrH := ⟨_, _, rfl, rfl⟩
theorem cbRrL : Statement .cbRrL := ⟨_, _, rfl, rfl⟩
theorem cbRrMemHL : Statement .cbRrMemHL := ⟨_, _, rfl, rfl⟩
theorem cbRrA : Statement .cbRrA := ⟨_, _, rfl, rfl⟩
theorem cbSlaB : Statement .cbSlaB := ⟨_, _, rfl, rfl⟩
theorem cbSlaC : Statement .cbSlaC := ⟨_, _, rfl, rfl⟩
theorem cbSlaD : Statement .cbSlaD := ⟨_, _, rfl, rfl⟩
theorem cbSlaE : Statement .cbSlaE := ⟨_, _, rfl, rfl⟩
theorem cbSlaH : Statement .cbSlaH := ⟨_, _, rfl, rfl⟩
theorem cbSlaL : Statement .cbSlaL := ⟨_, _, rfl, rfl⟩
theorem cbSlaMemHL : Statement .cbSlaMemHL := ⟨_, _, rfl, rfl⟩
theorem cbSlaA : Statement .cbSlaA := ⟨_, _, rfl, rfl⟩
theorem cbSraB : Statement .cbSraB := ⟨_, _, rfl, rfl⟩
theorem cbSraC : Statement .cbSraC := ⟨_, _, rfl, rfl⟩
theorem cbSraD : Statement .cbSraD := ⟨_, _, rfl, rfl⟩
theorem cbSraE : Statement .cbSraE := ⟨_, _, rfl, rfl⟩
theorem cbSraH : Statement .cbSraH := ⟨_, _, rfl, rfl⟩
theorem cbSraL : Statement .cbSraL := ⟨_, _, rfl, rfl⟩
theorem cbSraMemHL : Statement .cbSraMemHL := ⟨_, _, rfl, rfl⟩
theorem cbSraA : Statement .cbSraA := ⟨_, _, rfl, rfl⟩
theorem cbSwapB : Statement .cbSwapB := ⟨_, _, rfl, rfl⟩
theorem cbSwapC : Statement .cbSwapC := ⟨_, _, rfl, rfl⟩
theorem cbSwapD : Statement .cbSwapD := ⟨_, _, rfl, rfl⟩
theorem cbSwapE : Statement .cbSwapE := ⟨_, _, rfl, rfl⟩
theorem cbSwapH : Statement .cbSwapH := ⟨_, _, rfl, rfl⟩
theorem cbSwapL : Statement .cbSwapL := ⟨_, _, rfl, rfl⟩
theorem cbSwapMemHL : Statement .cbSwapMemHL := ⟨_, _, rfl, rfl⟩
theorem cbSwapA : Statement .cbSwapA := ⟨_, _, rfl, rfl⟩
theorem cbSrlB : Statement .cbSrlB := ⟨_, _, rfl, rfl⟩
theorem cbSrlC : Statement .cbSrlC := ⟨_, _, rfl, rfl⟩
theorem cbSrlD : Statement .cbSrlD := ⟨_, _, rfl, rfl⟩
theorem cbSrlE : Statement .cbSrlE := ⟨_, _, rfl, rfl⟩
theorem cbSrlH : Statement .cbSrlH := ⟨_, _, rfl, rfl⟩
theorem cbSrlL : Statement .cbSrlL := ⟨_, _, rfl, rfl⟩
theorem cbSrlMemHL : Statement .cbSrlMemHL := ⟨_, _, rfl, rfl⟩
theorem cbSrlA : Statement .cbSrlA := ⟨_, _, rfl, rfl⟩
theorem bit0B : Statement .bit0B := ⟨_, _, rfl, rfl⟩
theorem bit0C : Statement .bit0C := ⟨_, _, rfl, rfl⟩
theorem bit0D : Statement .bit0D := ⟨_, _, rfl, rfl⟩
theorem bit0E : Statement .bit0E := ⟨_, _, rfl, rfl⟩
theorem bit0H : Statement .bit0H := ⟨_, _, rfl, rfl⟩
theorem bit0L : Statement .bit0L := ⟨_, _, rfl, rfl⟩
theorem bit0MemHL : Statement .bit0MemHL := ⟨_, _, rfl, rfl⟩
theorem bit0A : Statement .bit0A := ⟨_, _, rfl, rfl⟩
theorem bit1B : Statement .bit1B := ⟨_, _, rfl, rfl⟩
theorem bit1C : Statement .bit1C := ⟨_, _, rfl, rfl⟩
theorem bit1D : Statement .bit1D := ⟨_, _, rfl, rfl⟩
theorem bit1E : Statement .bit1E := ⟨_, _, rfl, rfl⟩
theorem bit1H : Statement .bit1H := ⟨_, _, rfl, rfl⟩
theorem bit1L : Statement .bit1L := ⟨_, _, rfl, rfl⟩
theorem bit1MemHL : Statement .bit1MemHL := ⟨_, _, rfl, rfl⟩
theorem bit1A : Statement .bit1A := ⟨_, _, rfl, rfl⟩
theorem bit2B : Statement .bit2B := ⟨_, _, rfl, rfl⟩
theorem bit2C : Statement .bit2C := ⟨_, _, rfl, rfl⟩
theorem bit2D : Statement .bit2D := ⟨_, _, rfl, rfl⟩
theorem bit2E : Statement .bit2E := ⟨_, _, rfl, rfl⟩
theorem bit2H : Statement .bit2H := ⟨_, _, rfl, rfl⟩
theorem bit2L : Statement .bit2L := ⟨_, _, rfl, rfl⟩
theorem bit2MemHL : Statement .bit2MemHL := ⟨_, _, rfl, rfl⟩
theorem bit2A : Statement .bit2A := ⟨_, _, rfl, rfl⟩
theorem bit3B : Statement .bit3B := ⟨_, _, rfl, rfl⟩
theorem bit3C : Statement .bit3C := ⟨_, _, rfl, rfl⟩
theorem bit3D : Statement .bit3D := ⟨_, _, rfl, rfl⟩
theorem bit3E : Statement .bit3E := ⟨_, _, rfl, rfl⟩
theorem bit3H : Statement .bit3H := ⟨_, _, rfl, rfl⟩
theorem bit3L : Statement .bit3L := ⟨_, _, rfl, rfl⟩
theorem bit3MemHL : Statement .bit3MemHL := ⟨_, _, rfl, rfl⟩
theorem bit3A : Statement .bit3A := ⟨_, _, rfl, rfl⟩
theorem bit4B : Statement .bit4B := ⟨_, _, rfl, rfl⟩
theorem bit4C : Statement .bit4C := ⟨_, _, rfl, rfl⟩
theorem bit4D : Statement .bit4D := ⟨_, _, rfl, rfl⟩
theorem bit4E : Statement .bit4E := ⟨_, _, rfl, rfl⟩
theorem bit4H : Statement .bit4H := ⟨_, _, rfl, rfl⟩
theorem bit4L : Statement .bit4L := ⟨_, _, rfl, rfl⟩
theorem bit4MemHL : Statement .bit4MemHL := ⟨_, _, rfl, rfl⟩
theorem bit4A : Statement .bit4A := ⟨_, _, rfl, rfl⟩
theorem bit5B : Statement .bit5B := ⟨_, _, rfl, rfl⟩
theorem bit5C : Statement .bit5C := ⟨_, _, rfl, rfl⟩
theorem bit5D : Statement .bit5D := ⟨_, _, rfl, rfl⟩
theorem bit5E : Statement .bit5E := ⟨_, _, rfl, rfl⟩
theorem bit5H : Statement .bit5H := ⟨_, _, rfl, rfl⟩
theorem bit5L : Statement .bit5L := ⟨_, _, rfl, rfl⟩
theorem bit5MemHL : Statement .bit5MemHL := ⟨_, _, rfl, rfl⟩
theorem bit5A : Statement .bit5A := ⟨_, _, rfl, rfl⟩
theorem bit6B : Statement .bit6B := ⟨_, _, rfl, rfl⟩
theorem bit6C : Statement .bit6C := ⟨_, _, rfl, rfl⟩
theorem bit6D : Statement .bit6D := ⟨_, _, rfl, rfl⟩
theorem bit6E : Statement .bit6E := ⟨_, _, rfl, rfl⟩
theorem bit6H : Statement .bit6H := ⟨_, _, rfl, rfl⟩
theorem bit6L : Statement .bit6L := ⟨_, _, rfl, rfl⟩
theorem bit6MemHL : Statement .bit6MemHL := ⟨_, _, rfl, rfl⟩
theorem bit6A : Statement .bit6A := ⟨_, _, rfl, rfl⟩
theorem bit7B : Statement .bit7B := ⟨_, _, rfl, rfl⟩
theorem bit7C : Statement .bit7C := ⟨_, _, rfl, rfl⟩
theorem bit7D : Statement .bit7D := ⟨_, _, rfl, rfl⟩
theorem bit7E : Statement .bit7E := ⟨_, _, rfl, rfl⟩
theorem bit7H : Statement .bit7H := ⟨_, _, rfl, rfl⟩
theorem bit7L : Statement .bit7L := ⟨_, _, rfl, rfl⟩
theorem bit7MemHL : Statement .bit7MemHL := ⟨_, _, rfl, rfl⟩
theorem bit7A : Statement .bit7A := ⟨_, _, rfl, rfl⟩
theorem res0B : Statement .res0B := ⟨_, _, rfl, rfl⟩
theorem res0C : Statement .res0C := ⟨_, _, rfl, rfl⟩
theorem res0D : Statement .res0D := ⟨_, _, rfl, rfl⟩
theorem res0E : Statement .res0E := ⟨_, _, rfl, rfl⟩
theorem res0H : Statement .res0H := ⟨_, _, rfl, rfl⟩
theorem res0L : Statement .res0L := ⟨_, _, rfl, rfl⟩
theorem res0MemHL : Statement .res0MemHL := ⟨_, _, rfl, rfl⟩
theorem res0A : Statement .res0A := ⟨_, _, rfl, rfl⟩
theorem res1B : Statement .res1B := ⟨_, _, rfl, rfl⟩
theorem res1C : Statement .res1C := ⟨_, _, rfl, rfl⟩
theorem res1D : Statement .res1D := ⟨_, _, rfl, rfl⟩
theorem res1E : Statement .res1E := ⟨_, _, rfl, rfl⟩
theorem res1H : Statement .res1H := ⟨_, _, rfl, rfl⟩
theorem res1L : Statement .res1L := ⟨_, _, rfl, rfl⟩
theorem res1MemHL : Statement .res1MemHL := ⟨_, _, rfl, rfl⟩
theorem res1A : Statement .res1A := ⟨_, _, rfl, rfl⟩
theorem res2B : Statement .res2B := ⟨_, _, rfl, rfl⟩
theorem res2C : Statement .res2C := ⟨_, _, rfl, rfl⟩
theorem res2D : Statement .res2D := ⟨_, _, rfl, rfl⟩
theorem res2E : Statement .res2E := ⟨_, _, rfl, rfl⟩
theorem res2H : Statement .res2H := ⟨_, _, rfl, rfl⟩
theorem res2L : Statement .res2L := ⟨_, _, rfl, rfl⟩
theorem res2MemHL : Statement .res2MemHL := ⟨_, _, rfl, rfl⟩
theorem res2A : Statement .res2A := ⟨_, _, rfl, rfl⟩
theorem res3B : Statement .res3B := ⟨_, _, rfl, rfl⟩
theorem res3C : Statement .res3C := ⟨_, _, rfl, rfl⟩
theorem res3D : Statement .res3D := ⟨_, _, rfl, rfl⟩
theorem res3E : Statement .res3E := ⟨_, _, rfl, rfl⟩
theorem res3H : Statement .res3H := ⟨_, _, rfl, rfl⟩
theorem res3L : Statement .res3L := ⟨_, _, rfl, rfl⟩
theorem res3MemHL : Statement .res3MemHL := ⟨_, _, rfl, rfl⟩
theorem res3A : Statement .res3A := ⟨_, _, rfl, rfl⟩
theorem res4B : Statement .res4B := ⟨_, _, rfl, rfl⟩
theorem res4C : Statement .res4C := ⟨_, _, rfl, rfl⟩
theorem res4D : Statement .res4D := ⟨_, _, rfl, rfl⟩
theorem res4E : Statement .res4E := ⟨_, _, rfl, rfl⟩
theorem res4H : Statement .res4H := ⟨_, _, rfl, rfl⟩
theorem res4L : Statement .res4L := ⟨_, _, rfl, rfl⟩
theorem res4MemHL : Statement .res4MemHL := ⟨_, _, rfl, rfl⟩
theorem res4A : Statement .res4A := ⟨_, _, rfl, rfl⟩
theorem res5B : Statement .res5B := ⟨_, _, rfl, rfl⟩
theorem res5C : Statement .res5C := ⟨_, _, rfl, rfl⟩
theorem res5D : Statement .res5D := ⟨_, _, rfl, rfl⟩
theorem res5E : Statement .res5E := ⟨_, _, rfl, rfl⟩
theorem res5H : Statement .res5H := ⟨_, _, rfl, rfl⟩
theorem res5L : Statement .res5L := ⟨_, _, rfl, rfl⟩
theorem res5MemHL : Statement .res5MemHL := ⟨_, _, rfl, rfl⟩
theorem res5A : Statement .res5A := ⟨_, _, rfl, rfl⟩
theorem res6B : Statement .res6B := ⟨_, _, rfl, rfl⟩
theorem res6C : Statement .res6C := ⟨_, _, rfl, rfl⟩
theorem res6D : Statement .res6D := ⟨_, _, rfl, rfl⟩
theorem res6E : Statement .res6E := ⟨_, _, rfl, rfl⟩
theorem res6H : Statement .res6H := ⟨_, _, rfl, rfl⟩
theorem res6L : Statement .res6L := ⟨_, _, rfl, rfl⟩
theorem res6MemHL : Statement .res6MemHL := ⟨_, _, rfl, rfl⟩
theorem res6A : Statement .res6A := ⟨_, _, rfl, rfl⟩
theorem res7B : Statement .res7B := ⟨_, _, rfl, rfl⟩
theorem res7C : Statement .res7C := ⟨_, _, rfl, rfl⟩
theorem res7D : Statement .res7D := ⟨_, _, rfl, rfl⟩
theorem res7E : Statement .res7E := ⟨_, _, rfl, rfl⟩
theorem res7H : Statement .res7H := ⟨_, _, rfl, rfl⟩
theorem res7L : Statement .res7L := ⟨_, _, rfl, rfl⟩
theorem res7MemHL : Statement .res7MemHL := ⟨_, _, rfl, rfl⟩
theorem res7A : Statement .res7A := ⟨_, _, rfl, rfl⟩
theorem set0B : Statement .set0B := ⟨_, _, rfl, rfl⟩
theorem set0C : Statement .set0C := ⟨_, _, rfl, rfl⟩
theorem set0D : Statement .set0D := ⟨_, _, rfl, rfl⟩
theorem set0E : Statement .set0E := ⟨_, _, rfl, rfl⟩
theorem set0H : Statement .set0H := ⟨_, _, rfl, rfl⟩
theorem set0L : Statement .set0L := ⟨_, _, rfl, rfl⟩
theorem set0MemHL : Statement .set0MemHL := ⟨_, _, rfl, rfl⟩
theorem set0A : Statement .set0A := ⟨_, _, rfl, rfl⟩
theorem set1B : Statement .set1B := ⟨_, _, rfl, rfl⟩
theorem set1C : Statement .set1C := ⟨_, _, rfl, rfl⟩
theorem set1D : Statement .set1D := ⟨_, _, rfl, rfl⟩
theorem set1E : Statement .set1E := ⟨_, _, rfl, rfl⟩
theorem set1H : Statement .set1H := ⟨_, _, rfl, rfl⟩
theorem set1L : Statement .set1L := ⟨_, _, rfl, rfl⟩
theorem set1MemHL : Statement .set1MemHL := ⟨_, _, rfl, rfl⟩
theorem set1A : Statement .set1A := ⟨_, _, rfl, rfl⟩
theorem set2B : Statement .set2B := ⟨_, _, rfl, rfl⟩
theorem set2C : Statement .set2C := ⟨_, _, rfl, rfl⟩
theorem set2D : Statement .set2D := ⟨_, _, rfl, rfl⟩
theorem set2E : Statement .set2E := ⟨_, _, rfl, rfl⟩
theorem set2H : Statement .set2H := ⟨_, _, rfl, rfl⟩
theorem set2L : Statement .set2L := ⟨_, _, rfl, rfl⟩
theorem set2MemHL : Statement .set2MemHL := ⟨_, _, rfl, rfl⟩
theorem set2A : Statement .set2A := ⟨_, _, rfl, rfl⟩
theorem set3B : Statement .set3B := ⟨_, _, rfl, rfl⟩
theorem set3C : Statement .set3C := ⟨_, _, rfl, rfl⟩
theorem set3D : Statement .set3D := ⟨_, _, rfl, rfl⟩
theorem set3E : Statement .set3E := ⟨_, _, rfl, rfl⟩
theorem set3H : Statement .set3H := ⟨_, _, rfl, rfl⟩
theorem set3L : Statement .set3L := ⟨_, _, rfl, rfl⟩
theorem set3MemHL : Statement .set3MemHL := ⟨_, _, rfl, rfl⟩
theorem set3A : Statement .set3A := ⟨_, _, rfl, rfl⟩
theorem set4B : Statement .set4B := ⟨_, _, rfl, rfl⟩
theorem set4C : Statement .set4C := ⟨_, _, rfl, rfl⟩
theorem set4D : Statement .set4D := ⟨_, _, rfl, rfl⟩
theorem set4E : Statement .set4E := ⟨_, _, rfl, rfl⟩
theorem set4H : Statement .set4H := ⟨_, _, rfl, rfl⟩
theorem set4L : Statement .set4L := ⟨_, _, rfl, rfl⟩
theorem set4MemHL : Statement .set4MemHL := ⟨_, _, rfl, rfl⟩
theorem set4A : Statement .set4A := ⟨_, _, rfl, rfl⟩
theorem set5B : Statement .set5B := ⟨_, _, rfl, rfl⟩
theorem set5C : Statement .set5C := ⟨_, _, rfl, rfl⟩
theorem set5D : Statement .set5D := ⟨_, _, rfl, rfl⟩
theorem set5E : Statement .set5E := ⟨_, _, rfl, rfl⟩
theorem set5H : Statement .set5H := ⟨_, _, rfl, rfl⟩
theorem set5L : Statement .set5L := ⟨_, _, rfl, rfl⟩
theorem set5MemHL : Statement .set5MemHL := ⟨_, _, rfl, rfl⟩
theorem set5A : Statement .set5A := ⟨_, _, rfl, rfl⟩
theorem set6B : Statement .set6B := ⟨_, _, rfl, rfl⟩
theorem set6C : Statement .set6C := ⟨_, _, rfl, rfl⟩
theorem set6D : Statement .set6D := ⟨_, _, rfl, rfl⟩
theorem set6E : Statement .set6E := ⟨_, _, rfl, rfl⟩
theorem set6H : Statement .set6H := ⟨_, _, rfl, rfl⟩
theorem set6L : Statement .set6L := ⟨_, _, rfl, rfl⟩
theorem set6MemHL : Statement .set6MemHL := ⟨_, _, rfl, rfl⟩
theorem set6A : Statement .set6A := ⟨_, _, rfl, rfl⟩
theorem set7B : Statement .set7B := ⟨_, _, rfl, rfl⟩
theorem set7C : Statement .set7C := ⟨_, _, rfl, rfl⟩
theorem set7D : Statement .set7D := ⟨_, _, rfl, rfl⟩
theorem set7E : Statement .set7E := ⟨_, _, rfl, rfl⟩
theorem set7H : Statement .set7H := ⟨_, _, rfl, rfl⟩
theorem set7L : Statement .set7L := ⟨_, _, rfl, rfl⟩
theorem set7MemHL : Statement .set7MemHL := ⟨_, _, rfl, rfl⟩
theorem set7A : Statement .set7A := ⟨_, _, rfl, rfl⟩

end Sys2Proof.Laws.EncodeLength
end

