-- ==== Sys2Proof/Tests/Slice0.lean ====
section
/-! SUPPORT. Tests of the model, and the witnesses that the hypotheses of the statements can be met together. Expected
values come from the spec: the encodings from spec/opcode_table.json and spec/30_encoding.md R79, R80, the steps from the
vectors of spec/95_test_vectors.md named in each test. -/

open Sys2Proof Sys2Proof.Machine Sys2Proof.Claims

namespace Sys2Proof.Tests

/-! Well-formedness: each of the eleven ill-formed terms is refused, and an instruction is not. -/

theorem test_wellFormed_refuses_D3 : Instr.illegalD3.wellFormed = false := by decide
theorem test_wellFormed_refuses_DB : Instr.illegalDB.wellFormed = false := by decide
theorem test_wellFormed_refuses_DD : Instr.illegalDD.wellFormed = false := by decide
theorem test_wellFormed_refuses_E3 : Instr.illegalE3.wellFormed = false := by decide
theorem test_wellFormed_refuses_E4 : Instr.illegalE4.wellFormed = false := by decide
theorem test_wellFormed_refuses_EB : Instr.illegalEB.wellFormed = false := by decide
theorem test_wellFormed_refuses_EC : Instr.illegalEC.wellFormed = false := by decide
theorem test_wellFormed_refuses_ED : Instr.illegalED.wellFormed = false := by decide
theorem test_wellFormed_refuses_F4 : Instr.illegalF4.wellFormed = false := by decide
theorem test_wellFormed_refuses_FC : Instr.illegalFC.wellFormed = false := by decide
theorem test_wellFormed_refuses_FD : Instr.illegalFD.wellFormed = false := by decide
theorem test_wellFormed_accepts : Instr.rst38.wellFormed = true ∧ (Instr.stop 0x55#8).wellFormed = true := by decide

/-! Decoding and encoding, every row of the opcode table: the bytes are the table's opcode byte (behind the prefix byte
0xCB for the CB rows) followed by the operand bytes 0x34 and, low byte first, 0x12. -/

theorem test_decode_00 :
    [decode [0x00#8], decode [0x01#8, 0x34#8, 0x12#8], decode [0x02#8], decode [0x03#8],
     decode [0x04#8], decode [0x05#8], decode [0x06#8, 0x34#8], decode [0x07#8],
     decode [0x08#8, 0x34#8, 0x12#8], decode [0x09#8], decode [0x0A#8], decode [0x0B#8],
     decode [0x0C#8], decode [0x0D#8], decode [0x0E#8, 0x34#8], decode [0x0F#8]] =
    [.ok (.nop, []), .ok (.ldBCN16 0x1234#16, []), .ok (.ldMemBCA, []), .ok (.incBC, []),
     .ok (.incB, []), .ok (.decB, []), .ok (.ldBN8 0x34#8, []), .ok (.rlca, []),
     .ok (.ldMemA16SP 0x1234#16, []), .ok (.addHLBC, []), .ok (.ldAMemBC, []), .ok (.decBC, []),
     .ok (.incC, []), .ok (.decC, []), .ok (.ldCN8 0x34#8, []), .ok (.rrca, [])] := rfl

theorem test_encode_00 :
    [encode .nop, encode (.ldBCN16 0x1234#16), encode .ldMemBCA, encode .incBC,
     encode .incB, encode .decB, encode (.ldBN8 0x34#8), encode .rlca,
     encode (.ldMemA16SP 0x1234#16), encode .addHLBC, encode .ldAMemBC, encode .decBC,
     encode .incC, encode .decC, encode (.ldCN8 0x34#8), encode .rrca] =
    [[0x00#8], [0x01#8, 0x34#8, 0x12#8], [0x02#8], [0x03#8],
     [0x04#8], [0x05#8], [0x06#8, 0x34#8], [0x07#8],
     [0x08#8, 0x34#8, 0x12#8], [0x09#8], [0x0A#8], [0x0B#8],
     [0x0C#8], [0x0D#8], [0x0E#8, 0x34#8], [0x0F#8]] := rfl

theorem test_decode_10 :
    [decode [0x10#8, 0x34#8], decode [0x11#8, 0x34#8, 0x12#8], decode [0x12#8], decode [0x13#8],
     decode [0x14#8], decode [0x15#8], decode [0x16#8, 0x34#8], decode [0x17#8],
     decode [0x18#8, 0x34#8], decode [0x19#8], decode [0x1A#8], decode [0x1B#8],
     decode [0x1C#8], decode [0x1D#8], decode [0x1E#8, 0x34#8], decode [0x1F#8]] =
    [.ok (.stop 0x34#8, []), .ok (.ldDEN16 0x1234#16, []), .ok (.ldMemDEA, []), .ok (.incDE, []),
     .ok (.incD, []), .ok (.decD, []), .ok (.ldDN8 0x34#8, []), .ok (.rla, []),
     .ok (.jrE8 0x34#8, []), .ok (.addHLDE, []), .ok (.ldAMemDE, []), .ok (.decDE, []),
     .ok (.incE, []), .ok (.decE, []), .ok (.ldEN8 0x34#8, []), .ok (.rra, [])] := rfl

theorem test_encode_10 :
    [encode (.stop 0x34#8), encode (.ldDEN16 0x1234#16), encode .ldMemDEA, encode .incDE,
     encode .incD, encode .decD, encode (.ldDN8 0x34#8), encode .rla,
     encode (.jrE8 0x34#8), encode .addHLDE, encode .ldAMemDE, encode .decDE,
     encode .incE, encode .decE, encode (.ldEN8 0x34#8), encode .rra] =
    [[0x10#8, 0x34#8], [0x11#8, 0x34#8, 0x12#8], [0x12#8], [0x13#8],
     [0x14#8], [0x15#8], [0x16#8, 0x34#8], [0x17#8],
     [0x18#8, 0x34#8], [0x19#8], [0x1A#8], [0x1B#8],
     [0x1C#8], [0x1D#8], [0x1E#8, 0x34#8], [0x1F#8]] := rfl

theorem test_decode_20 :
    [decode [0x20#8, 0x34#8], decode [0x21#8, 0x34#8, 0x12#8], decode [0x22#8], decode [0x23#8],
     decode [0x24#8], decode [0x25#8], decode [0x26#8, 0x34#8], decode [0x27#8],
     decode [0x28#8, 0x34#8], decode [0x29#8], decode [0x2A#8], decode [0x2B#8],
     decode [0x2C#8], decode [0x2D#8], decode [0x2E#8, 0x34#8], decode [0x2F#8]] =
    [.ok (.jrNZE8 0x34#8, []), .ok (.ldHLN16 0x1234#16, []), .ok (.ldMemHLIncA, []), .ok (.incHL, []),
     .ok (.incH, []), .ok (.decH, []), .ok (.ldHN8 0x34#8, []), .ok (.daa, []),
     .ok (.jrZE8 0x34#8, []), .ok (.addHLHL, []), .ok (.ldAMemHLInc, []), .ok (.decHL, []),
     .ok (.incL, []), .ok (.decL, []), .ok (.ldLN8 0x34#8, []), .ok (.cpl, [])] := rfl

theorem test_encode_20 :
    [encode (.jrNZE8 0x34#8), encode (.ldHLN16 0x1234#16), encode .ldMemHLIncA, encode .incHL,
     encode .incH, encode .decH, encode (.ldHN8 0x34#8), encode .daa,
     encode (.jrZE8 0x34#8), encode .addHLHL, encode .ldAMemHLInc, encode .decHL,
     encode .incL, encode .decL, encode (.ldLN8 0x34#8), encode .cpl] =
    [[0x20#8, 0x34#8], [0x21#8, 0x34#8, 0x12#8], [0x22#8], [0x23#8],
     [0x24#8], [0x25#8], [0x26#8, 0x34#8], [0x27#8],
     [0x28#8, 0x34#8], [0x29#8], [0x2A#8], [0x2B#8],
     [0x2C#8], [0x2D#8], [0x2E#8, 0x34#8], [0x2F#8]] := rfl

theorem test_decode_30 :
    [decode [0x30#8, 0x34#8], decode [0x31#8, 0x34#8, 0x12#8], decode [0x32#8], decode [0x33#8],
     decode [0x34#8], decode [0x35#8], decode [0x36#8, 0x34#8], decode [0x37#8],
     decode [0x38#8, 0x34#8], decode [0x39#8], decode [0x3A#8], decode [0x3B#8],
     decode [0x3C#8], decode [0x3D#8], decode [0x3E#8, 0x34#8], decode [0x3F#8]] =
    [.ok (.jrNCE8 0x34#8, []), .ok (.ldSPN16 0x1234#16, []), .ok (.ldMemHLDecA, []), .ok (.incSP, []),
     .ok (.incMemHL, []), .ok (.decMemHL, []), .ok (.ldMemHLN8 0x34#8, []), .ok (.scf, []),
     .ok (.jrCE8 0x34#8, []), .ok (.addHLSP, []), .ok (.ldAMemHLDec, []), .ok (.decSP, []),
     .ok (.incA, []), .ok (.decA, []), .ok (.ldAN8 0x34#8, []), .ok (.ccf, [])] := rfl

theorem test_encode_30 :
    [encode (.jrNCE8 0x34#8), encode (.ldSPN16 0x1234#16), encode .ldMemHLDecA, encode .incSP,
     encode .incMemHL, encode .decMemHL, encode (.ldMemHLN8 0x34#8), encode .scf,
     encode (.jrCE8 0x34#8), encode .addHLSP, encode .ldAMemHLDec, encode .decSP,
     encode .incA, encode .decA, encode (.ldAN8 0x34#8), encode .ccf] =
    [[0x30#8, 0x34#8], [0x31#8, 0x34#8, 0x12#8], [0x32#8], [0x33#8],
     [0x34#8], [0x35#8], [0x36#8, 0x34#8], [0x37#8],
     [0x38#8, 0x34#8], [0x39#8], [0x3A#8], [0x3B#8],
     [0x3C#8], [0x3D#8], [0x3E#8, 0x34#8], [0x3F#8]] := rfl

theorem test_decode_40 :
    [decode [0x40#8], decode [0x41#8], decode [0x42#8], decode [0x43#8],
     decode [0x44#8], decode [0x45#8], decode [0x46#8], decode [0x47#8],
     decode [0x48#8], decode [0x49#8], decode [0x4A#8], decode [0x4B#8],
     decode [0x4C#8], decode [0x4D#8], decode [0x4E#8], decode [0x4F#8]] =
    [.ok (.ldBB, []), .ok (.ldBC, []), .ok (.ldBD, []), .ok (.ldBE, []),
     .ok (.ldBH, []), .ok (.ldBL, []), .ok (.ldBMemHL, []), .ok (.ldBA, []),
     .ok (.ldCB, []), .ok (.ldCC, []), .ok (.ldCD, []), .ok (.ldCE, []),
     .ok (.ldCH, []), .ok (.ldCL, []), .ok (.ldCMemHL, []), .ok (.ldCA, [])] := rfl

theorem test_encode_40 :
    [encode .ldBB, encode .ldBC, encode .ldBD, encode .ldBE,
     encode .ldBH, encode .ldBL, encode .ldBMemHL, encode .ldBA,
     encode .ldCB, encode .ldCC, encode .ldCD, encode .ldCE,
     encode .ldCH, encode .ldCL, encode .ldCMemHL, encode .ldCA] =
    [[0x40#8], [0x41#8], [0x42#8], [0x43#8],
     [0x44#8], [0x45#8], [0x46#8], [0x47#8],
     [0x48#8], [0x49#8], [0x4A#8], [0x4B#8],
     [0x4C#8], [0x4D#8], [0x4E#8], [0x4F#8]] := rfl

theorem test_decode_50 :
    [decode [0x50#8], decode [0x51#8], decode [0x52#8], decode [0x53#8],
     decode [0x54#8], decode [0x55#8], decode [0x56#8], decode [0x57#8],
     decode [0x58#8], decode [0x59#8], decode [0x5A#8], decode [0x5B#8],
     decode [0x5C#8], decode [0x5D#8], decode [0x5E#8], decode [0x5F#8]] =
    [.ok (.ldDB, []), .ok (.ldDC, []), .ok (.ldDD, []), .ok (.ldDE, []),
     .ok (.ldDH, []), .ok (.ldDL, []), .ok (.ldDMemHL, []), .ok (.ldDA, []),
     .ok (.ldEB, []), .ok (.ldEC, []), .ok (.ldED, []), .ok (.ldEE, []),
     .ok (.ldEH, []), .ok (.ldEL, []), .ok (.ldEMemHL, []), .ok (.ldEA, [])] := rfl

theorem test_encode_50 :
    [encode .ldDB, encode .ldDC, encode .ldDD, encode .ldDE,
     encode .ldDH, encode .ldDL, encode .ldDMemHL, encode .ldDA,
     encode .ldEB, encode .ldEC, encode .ldED, encode .ldEE,
     encode .ldEH, encode .ldEL, encode .ldEMemHL, encode .ldEA] =
    [[0x50#8], [0x51#8], [0x52#8], [0x53#8],
     [0x54#8], [0x55#8], [0x56#8], [0x57#8],
     [0x58#8], [0x59#8], [0x5A#8], [0x5B#8],
     [0x5C#8], [0x5D#8], [0x5E#8], [0x5F#8]] := rfl

theorem test_decode_60 :
    [decode [0x60#8], decode [0x61#8], decode [0x62#8], decode [0x63#8],
     decode [0x64#8], decode [0x65#8], decode [0x66#8], decode [0x67#8],
     decode [0x68#8], decode [0x69#8], decode [0x6A#8], decode [0x6B#8],
     decode [0x6C#8], decode [0x6D#8], decode [0x6E#8], decode [0x6F#8]] =
    [.ok (.ldHB, []), .ok (.ldHC, []), .ok (.ldHD, []), .ok (.ldHE, []),
     .ok (.ldHH, []), .ok (.ldHL, []), .ok (.ldHMemHL, []), .ok (.ldHA, []),
     .ok (.ldLB, []), .ok (.ldLC, []), .ok (.ldLD, []), .ok (.ldLE, []),
     .ok (.ldLH, []), .ok (.ldLL, []), .ok (.ldLMemHL, []), .ok (.ldLA, [])] := rfl

theorem test_encode_60 :
    [encode .ldHB, encode .ldHC, encode .ldHD, encode .ldHE,
     encode .ldHH, encode .ldHL, encode .ldHMemHL, encode .ldHA,
     encode .ldLB, encode .ldLC, encode .ldLD, encode .ldLE,
     encode .ldLH, encode .ldLL, encode .ldLMemHL, encode .ldLA] =
    [[0x60#8], [0x61#8], [0x62#8], [0x63#8],
     [0x64#8], [0x65#8], [0x66#8], [0x67#8],
     [0x68#8], [0x69#8], [0x6A#8], [0x6B#8],
     [0x6C#8], [0x6D#8], [0x6E#8], [0x6F#8]] := rfl

theorem test_decode_70 :
    [decode [0x70#8], decode [0x71#8], decode [0x72#8], decode [0x73#8],
     decode [0x74#8], decode [0x75#8], decode [0x76#8], decode [0x77#8],
     decode [0x78#8], decode [0x79#8], decode [0x7A#8], decode [0x7B#8],
     decode [0x7C#8], decode [0x7D#8], decode [0x7E#8], decode [0x7F#8]] =
    [.ok (.ldMemHLB, []), .ok (.ldMemHLC, []), .ok (.ldMemHLD, []), .ok (.ldMemHLE, []),
     .ok (.ldMemHLH, []), .ok (.ldMemHLL, []), .ok (.halt, []), .ok (.ldMemHLA, []),
     .ok (.ldAB, []), .ok (.ldAC, []), .ok (.ldAD, []), .ok (.ldAE, []),
     .ok (.ldAH, []), .ok (.ldAL, []), .ok (.ldAMemHL, []), .ok (.ldAA, [])] := rfl

theorem test_encode_70 :
    [encode .ldMemHLB, encode .ldMemHLC, encode .ldMemHLD, encode .ldMemHLE,
     encode .ldMemHLH, encode .ldMemHLL, encode .halt, encode .ldMemHLA,
     encode .ldAB, encode .ldAC, encode .ldAD, encode .ldAE,
     encode .ldAH, encode .ldAL, encode .ldAMemHL, encode .ldAA] =
    [[0x70#8], [0x71#8], [0x72#8], [0x73#8],
     [0x74#8], [0x75#8], [0x76#8], [0x77#8],
     [0x78#8], [0x79#8], [0x7A#8], [0x7B#8],
     [0x7C#8], [0x7D#8], [0x7E#8], [0x7F#8]] := rfl

theorem test_decode_80 :
    [decode [0x80#8], decode [0x81#8], decode [0x82#8], decode [0x83#8],
     decode [0x84#8], decode [0x85#8], decode [0x86#8], decode [0x87#8],
     decode [0x88#8], decode [0x89#8], decode [0x8A#8], decode [0x8B#8],
     decode [0x8C#8], decode [0x8D#8], decode [0x8E#8], decode [0x8F#8]] =
    [.ok (.addAB, []), .ok (.addAC, []), .ok (.addAD, []), .ok (.addAE, []),
     .ok (.addAH, []), .ok (.addAL, []), .ok (.addAMemHL, []), .ok (.addAA, []),
     .ok (.adcAB, []), .ok (.adcAC, []), .ok (.adcAD, []), .ok (.adcAE, []),
     .ok (.adcAH, []), .ok (.adcAL, []), .ok (.adcAMemHL, []), .ok (.adcAA, [])] := rfl

theorem test_encode_80 :
    [encode .addAB, encode .addAC, encode .addAD, encode .addAE,
     encode .addAH, encode .addAL, encode .addAMemHL, encode .addAA,
     encode .adcAB, encode .adcAC, encode .adcAD, encode .adcAE,
     encode .adcAH, encode .adcAL, encode .adcAMemHL, encode .adcAA] =
    [[0x80#8], [0x81#8], [0x82#8], [0x83#8],
     [0x84#8], [0x85#8], [0x86#8], [0x87#8],
     [0x88#8], [0x89#8], [0x8A#8], [0x8B#8],
     [0x8C#8], [0x8D#8], [0x8E#8], [0x8F#8]] := rfl

theorem test_decode_90 :
    [decode [0x90#8], decode [0x91#8], decode [0x92#8], decode [0x93#8],
     decode [0x94#8], decode [0x95#8], decode [0x96#8], decode [0x97#8],
     decode [0x98#8], decode [0x99#8], decode [0x9A#8], decode [0x9B#8],
     decode [0x9C#8], decode [0x9D#8], decode [0x9E#8], decode [0x9F#8]] =
    [.ok (.subAB, []), .ok (.subAC, []), .ok (.subAD, []), .ok (.subAE, []),
     .ok (.subAH, []), .ok (.subAL, []), .ok (.subAMemHL, []), .ok (.subAA, []),
     .ok (.sbcAB, []), .ok (.sbcAC, []), .ok (.sbcAD, []), .ok (.sbcAE, []),
     .ok (.sbcAH, []), .ok (.sbcAL, []), .ok (.sbcAMemHL, []), .ok (.sbcAA, [])] := rfl

theorem test_encode_90 :
    [encode .subAB, encode .subAC, encode .subAD, encode .subAE,
     encode .subAH, encode .subAL, encode .subAMemHL, encode .subAA,
     encode .sbcAB, encode .sbcAC, encode .sbcAD, encode .sbcAE,
     encode .sbcAH, encode .sbcAL, encode .sbcAMemHL, encode .sbcAA] =
    [[0x90#8], [0x91#8], [0x92#8], [0x93#8],
     [0x94#8], [0x95#8], [0x96#8], [0x97#8],
     [0x98#8], [0x99#8], [0x9A#8], [0x9B#8],
     [0x9C#8], [0x9D#8], [0x9E#8], [0x9F#8]] := rfl

theorem test_decode_A0 :
    [decode [0xA0#8], decode [0xA1#8], decode [0xA2#8], decode [0xA3#8],
     decode [0xA4#8], decode [0xA5#8], decode [0xA6#8], decode [0xA7#8],
     decode [0xA8#8], decode [0xA9#8], decode [0xAA#8], decode [0xAB#8],
     decode [0xAC#8], decode [0xAD#8], decode [0xAE#8], decode [0xAF#8]] =
    [.ok (.andAB, []), .ok (.andAC, []), .ok (.andAD, []), .ok (.andAE, []),
     .ok (.andAH, []), .ok (.andAL, []), .ok (.andAMemHL, []), .ok (.andAA, []),
     .ok (.xorAB, []), .ok (.xorAC, []), .ok (.xorAD, []), .ok (.xorAE, []),
     .ok (.xorAH, []), .ok (.xorAL, []), .ok (.xorAMemHL, []), .ok (.xorAA, [])] := rfl

theorem test_encode_A0 :
    [encode .andAB, encode .andAC, encode .andAD, encode .andAE,
     encode .andAH, encode .andAL, encode .andAMemHL, encode .andAA,
     encode .xorAB, encode .xorAC, encode .xorAD, encode .xorAE,
     encode .xorAH, encode .xorAL, encode .xorAMemHL, encode .xorAA] =
    [[0xA0#8], [0xA1#8], [0xA2#8], [0xA3#8],
     [0xA4#8], [0xA5#8], [0xA6#8], [0xA7#8],
     [0xA8#8], [0xA9#8], [0xAA#8], [0xAB#8],
     [0xAC#8], [0xAD#8], [0xAE#8], [0xAF#8]] := rfl

theorem test_decode_B0 :
    [decode [0xB0#8], decode [0xB1#8], decode [0xB2#8], decode [0xB3#8],
     decode [0xB4#8], decode [0xB5#8], decode [0xB6#8], decode [0xB7#8],
     decode [0xB8#8], decode [0xB9#8], decode [0xBA#8], decode [0xBB#8],
     decode [0xBC#8], decode [0xBD#8], decode [0xBE#8], decode [0xBF#8]] =
    [.ok (.orAB, []), .ok (.orAC, []), .ok (.orAD, []), .ok (.orAE, []),
     .ok (.orAH, []), .ok (.orAL, []), .ok (.orAMemHL, []), .ok (.orAA, []),
     .ok (.cpAB, []), .ok (.cpAC, []), .ok (.cpAD, []), .ok (.cpAE, []),
     .ok (.cpAH, []), .ok (.cpAL, []), .ok (.cpAMemHL, []), .ok (.cpAA, [])] := rfl

theorem test_encode_B0 :
    [encode .orAB, encode .orAC, encode .orAD, encode .orAE,
     encode .orAH, encode .orAL, encode .orAMemHL, encode .orAA,
     encode .cpAB, encode .cpAC, encode .cpAD, encode .cpAE,
     encode .cpAH, encode .cpAL, encode .cpAMemHL, encode .cpAA] =
    [[0xB0#8], [0xB1#8], [0xB2#8], [0xB3#8],
     [0xB4#8], [0xB5#8], [0xB6#8], [0xB7#8],
     [0xB8#8], [0xB9#8], [0xBA#8], [0xBB#8],
     [0xBC#8], [0xBD#8], [0xBE#8], [0xBF#8]] := rfl

theorem test_decode_C0 :
    [decode [0xC0#8], decode [0xC1#8], decode [0xC2#8, 0x34#8, 0x12#8], decode [0xC3#8, 0x34#8, 0x12#8],
     decode [0xC4#8, 0x34#8, 0x12#8], decode [0xC5#8], decode [0xC6#8, 0x34#8], decode [0xC7#8],
     decode [0xC8#8], decode [0xC9#8], decode [0xCA#8, 0x34#8, 0x12#8], decode [0xCC#8, 0x34#8, 0x12#8],
     decode [0xCD#8, 0x34#8, 0x12#8], decode [0xCE#8, 0x34#8], decode [0xCF#8]] =
    [.ok (.retNZ, []), .ok (.popBC, []), .ok (.jpNZA16 0x1234#16, []), .ok (.jpA16 0x1234#16, []),
     .ok (.callNZA16 0x1234#16, []), .ok (.pushBC, []), .ok (.addAN8 0x34#8, []), .ok (.rst00, []),
     .ok (.retZ, []), .ok (.ret, []), .ok (.jpZA16 0x1234#16, []), .ok (.callZA16 0x1234#16, []),
     .ok (.callA16 0x1234#16, []), .ok (.adcAN8 0x34#8, []), .ok (.rst08, [])] := rfl

theorem test_encode_C0 :
    [encode .retNZ, encode .popBC, encode (.jpNZA16 0x1234#16), encode (.jpA16 0x1234#16),
     encode (.callNZA16 0x1234#16), encode .pushBC, encode (.addAN8 0x34#8), encode .rst00,
     encode .retZ, encode .ret, encode (.jpZA16 0x1234#16), encode (.callZA16 0x1234#16),
     encode (.callA16 0x1234#16), encode (.adcAN8 0x34#8), encode .rst08] =
    [[0xC0#8], [0xC1#8], [0xC2#8, 0x34#8, 0x12#8], [0xC3#8, 0x34#8, 0x12#8],
     [0xC4#8, 0x34#8, 0x12#8], [0xC5#8], [0xC6#8, 0x34#8], [0xC7#8],
     [0xC8#8], [0xC9#8], [0xCA#8, 0x34#8, 0x12#8], [0xCC#8, 0x34#8, 0x12#8],
     [0xCD#8, 0x34#8, 0x12#8], [0xCE#8, 0x34#8], [0xCF#8]] := rfl

theorem test_decode_D0 :
    [decode [0xD0#8], decode [0xD1#8], decode [0xD2#8, 0x34#8, 0x12#8], decode [0xD3#8],
     decode [0xD4#8, 0x34#8, 0x12#8], decode [0xD5#8], decode [0xD6#8, 0x34#8], decode [0xD7#8],
     decode [0xD8#8], decode [0xD9#8], decode [0xDA#8, 0x34#8, 0x12#8], decode [0xDB#8],
     decode [0xDC#8, 0x34#8, 0x12#8], decode [0xDD#8], decode [0xDE#8, 0x34#8], decode [0xDF#8]] =
    [.ok (.retNC, []), .ok (.popDE, []), .ok (.jpNCA16 0x1234#16, []), .ok (.illegalD3, []),
     .ok (.callNCA16 0x1234#16, []), .ok (.pushDE, []), .ok (.subAN8 0x34#8, []), .ok (.rst10, []),
     .ok (.retC, []), .ok (.reti, []), .ok (.jpCA16 0x1234#16, []), .ok (.illegalDB, []),
     .ok (.callCA16 0x1234#16, []), .ok (.illegalDD, []), .ok (.sbcAN8 0x34#8, []), .ok (.rst18, [])] := rfl

theorem test_encode_D0 :
    [encode .retNC, encode .popDE, encode (.jpNCA16 0x1234#16), encode .illegalD3,
     encode (.callNCA16 0x1234#16), encode .pushDE, encode (.subAN8 0x34#8), encode .rst10,
     encode .retC, encode .reti, encode (.jpCA16 0x1234#16), encode .illegalDB,
     encode (.callCA16 0x1234#16), encode .illegalDD, encode (.sbcAN8 0x34#8), encode .rst18] =
    [[0xD0#8], [0xD1#8], [0xD2#8, 0x34#8, 0x12#8], [0xD3#8],
     [0xD4#8, 0x34#8, 0x12#8], [0xD5#8], [0xD6#8, 0x34#8], [0xD7#8],
     [0xD8#8], [0xD9#8], [0xDA#8, 0x34#8, 0x12#8], [0xDB#8],
     [0xDC#8, 0x34#8, 0x12#8], [0xDD#8], [0xDE#8, 0x34#8], [0xDF#8]] := rfl

theorem test_decode_E0 :
    [decode [0xE0#8, 0x34#8], decode [0xE1#8], decode [0xE2#8], decode [0xE3#8],
     decode [0xE4#8], decode [0xE5#8], decode [0xE6#8, 0x34#8], decode [0xE7#8],
     decode [0xE8#8, 0x34#8], decode [0xE9#8], decode [0xEA#8, 0x34#8, 0x12#8], decode [0xEB#8],
     decode [0xEC#8], decode [0xED#8], decode [0xEE#8, 0x34#8], decode [0xEF#8]] =
    [.ok (.ldhMemA8A 0x34#8, []), .ok (.popHL, []), .ok (.ldhMemCA, []), .ok (.illegalE3, []),
     .ok (.illegalE4, []), .ok (.pushHL, []), .ok (.andAN8 0x34#8, []), .ok (.rst20, []),
     .ok (.addSPE8 0x34#8, []), .ok (.jpHL, []), .ok (.ldMemA16A 0x1234#16, []), .ok (.illegalEB, []),
     .ok (.illegalEC, []), .ok (.illegalED, []), .ok (.xorAN8 0x34#8, []), .ok (.rst28, [])] := rfl

theorem test_encode_E0 :
    [encode (.ldhMemA8A 0x34#8), encode .popHL, encode .ldhMemCA, encode .illegalE3,
     encode .illegalE4, encode .pushHL, encode (.andAN8 0x34#8), encode .rst20,
     encode (.addSPE8 0x34#8), encode .jpHL, encode (.ldMemA16A 0x1234#16), encode .illegalEB,
     encode .illegalEC, encode .illegalED, encode (.xorAN8 0x34#8), encode .rst28] =
    [[0xE0#8, 0x34#8], [0xE1#8], [0xE2#8], [0xE3#8],
     [0xE4#8], [0xE5#8], [0xE6#8, 0x34#8], [0xE7#8],
     [0xE8#8, 0x34#8], [0xE9#8], [0xEA#8, 0x34#8, 0x12#8], [0xEB#8],
     [0xEC#8], [0xED#8], [0xEE#8, 0x34#8], [0xEF#8]] := rfl

theorem test_decode_F0 :
    [decode [0xF0#8, 0x34#8], decode [0xF1#8], decode [0xF2#8], decode [0xF3#8],
     decode [0xF4#8], decode [0xF5#8], decode [0xF6#8, 0x34#8], decode [0xF7#8],
     decode [0xF8#8, 0x34#8], decode [0xF9#8], decode [0xFA#8, 0x34#8, 0x12#8], decode [0xFB#8],
     decode [0xFC#8], decode [0xFD#8], decode [0xFE#8, 0x34#8], decode [0xFF#8]] =
    [.ok (.ldhAMemA8 0x34#8, []), .ok (.popAF, []), .ok (.ldhAMemC, []), .ok (.di, []),
     .ok (.illegalF4, []), .ok (.pushAF, []), .ok (.orAN8 0x34#8, []), .ok (.rst30, []),
     .ok (.ldHLSPE8 0x34#8, []), .ok (.ldSPHL, []), .ok (.ldAMemA16 0x1234#16, []), .ok (.ei, []),
     .ok (.illegalFC, []), .ok (.illegalFD, []), .ok (.cpAN8 0x34#8, []), .ok (.rst38, [])] := rfl

theorem test_encode_F0 :
    [encode (.ldhAMemA8 0x34#8), encode .popAF, encode .ldhAMemC, encode .di,
     encode .illegalF4, encode .pushAF, encode (.orAN8 0x34#8), encode .rst30,
     encode (.ldHLSPE8 0x34#8), encode .ldSPHL, encode (.ldAMemA16 0x1234#16), encode .ei,
     encode .illegalFC, encode .illegalFD, encode (.cpAN8 0x34#8), encode .rst38] =
    [[0xF0#8, 0x34#8], [0xF1#8], [0xF2#8], [0xF3#8],
     [0xF4#8], [0xF5#8], [0xF6#8, 0x34#8], [0xF7#8],
     [0xF8#8, 0x34#8], [0xF9#8], [0xFA#8, 0x34#8, 0x12#8], [0xFB#8],
     [0xFC#8], [0xFD#8], [0xFE#8, 0x34#8], [0xFF#8]] := rfl

theorem test_decode_CB00 :
    [decode [0xCB#8, 0x00#8], decode [0xCB#8, 0x01#8], decode [0xCB#8, 0x02#8], decode [0xCB#8, 0x03#8],
     decode [0xCB#8, 0x04#8], decode [0xCB#8, 0x05#8], decode [0xCB#8, 0x06#8], decode [0xCB#8, 0x07#8],
     decode [0xCB#8, 0x08#8], decode [0xCB#8, 0x09#8], decode [0xCB#8, 0x0A#8], decode [0xCB#8, 0x0B#8],
     decode [0xCB#8, 0x0C#8], decode [0xCB#8, 0x0D#8], decode [0xCB#8, 0x0E#8], decode [0xCB#8, 0x0F#8]] =
    [.ok (.cbRlcB, []), .ok (.cbRlcC, []), .ok (.cbRlcD, []), .ok (.cbRlcE, []),
     .ok (.cbRlcH, []), .ok (.cbRlcL, []), .ok (.cbRlcMemHL, []), .ok (.cbRlcA, []),
     .ok (.cbRrcB, []), .ok (.cbRrcC, []), .ok (.cbRrcD, []), .ok (.cbRrcE, []),
     .ok (.cbRrcH, []), .ok (.cbRrcL, []), .ok (.cbRrcMemHL, []), .ok (.cbRrcA, [])] := rfl

theorem test_encode_CB00 :
    [encode .cbRlcB, encode .cbRlcC, encode .cbRlcD, encode .cbRlcE,
     encode .cbRlcH, encode .cbRlcL, encode .cbRlcMemHL, encode .cbRlcA,
     encode .cbRrcB, encode .cbRrcC, encode .cbRrcD, encode .cbRrcE,
     encode .cbRrcH, encode .cbRrcL, encode .cbRrcMemHL, encode .cbRrcA] =
    [[0xCB#8, 0x00#8], [0xCB#8, 0x01#8], [0xCB#8, 0x02#8], [0xCB#8, 0x03#8],
     [0xCB#8, 0x04#8], [0xCB#8, 0x05#8], [0xCB#8, 0x06#8], [0xCB#8, 0x07#8],
     [0xCB#8, 0x08#8], [0xCB#8, 0x09#8], [0xCB#8, 0x0A#8], [0xCB#8, 0x0B#8],
     [0xCB#8, 0x0C#8], [0xCB#8, 0x0D#8], [0xCB#8, 0x0E#8], [0xCB#8, 0x0F#8]] := rfl

theorem test_decode_CB10 :
    [decode [0xCB#8, 0x10#8], decode [0xCB#8, 0x11#8], decode [0xCB#8, 0x12#8], decode [0xCB#8, 0x13#8],
     decode [0xCB#8, 0x14#8], decode [0xCB#8, 0x15#8], decode [0xCB#8, 0x16#8], decode [0xCB#8, 0x17#8],
     decode [0xCB#8, 0x18#8], decode [0xCB#8, 0x19#8], decode [0xCB#8, 0x1A#8], decode [0xCB#8, 0x1B#8],
     decode [0xCB#8, 0x1C#8], decode [0xCB#8, 0x1D#8], decode [0xCB#8, 0x1E#8], decode [0xCB#8, 0x1F#8]] =
    [.ok (.cbRlB, []), .ok (.cbRlC, []), .ok (.cbRlD, []), .ok (.cbRlE, []),
     .ok (.cbRlH, []), .ok (.cbRlL, []), .ok (.cbRlMemHL, []), .ok (.cbRlA, []),
     .ok (.cbRrB, []), .ok (.cbRrC, []), .ok (.cbRrD, []), .ok (.cbRrE, []),
     .ok (.cbRrH, []), .ok (.cbRrL, []), .ok (.cbRrMemHL, []), .ok (.cbRrA, [])] := rfl

theorem test_encode_CB10 :
    [encode .cbRlB, encode .cbRlC, encode .cbRlD, encode .cbRlE,
     encode .cbRlH, encode .cbRlL, encode .cbRlMemHL, encode .cbRlA,
     encode .cbRrB, encode .cbRrC, encode .cbRrD, encode .cbRrE,
     encode .cbRrH, encode .cbRrL, encode .cbRrMemHL, encode .cbRrA] =
    [[0xCB#8, 0x10#8], [0xCB#8, 0x11#8], [0xCB#8, 0x12#8], [0xCB#8, 0x13#8],
     [0xCB#8, 0x14#8], [0xCB#8, 0x15#8], [0xCB#8, 0x16#8], [0xCB#8, 0x17#8],
     [0xCB#8, 0x18#8], [0xCB#8, 0x19#8], [0xCB#8, 0x1A#8], [0xCB#8, 0x1B#8],
     [0xCB#8, 0x1C#8], [0xCB#8, 0x1D#8], [0xCB#8, 0x1E#8], [0xCB#8, 0x1F#8]] := rfl

theorem test_decode_CB20 :
    [decode [0xCB#8, 0x20#8], decode [0xCB#8, 0x21#8], decode [0xCB#8, 0x22#8], decode [0xCB#8, 0x23#8],
     decode [0xCB#8, 0x24#8], decode [0xCB#8, 0x25#8], decode [0xCB#8, 0x26#8], decode [0xCB#8, 0x27#8],
     decode [0xCB#8, 0x28#8], decode [0xCB#8, 0x29#8], decode [0xCB#8, 0x2A#8], decode [0xCB#8, 0x2B#8],
     decode [0xCB#8, 0x2C#8], decode [0xCB#8, 0x2D#8], decode [0xCB#8, 0x2E#8], decode [0xCB#8, 0x2F#8]] =
    [.ok (.cbSlaB, []), .ok (.cbSlaC, []), .ok (.cbSlaD, []), .ok (.cbSlaE, []),
     .ok (.cbSlaH, []), .ok (.cbSlaL, []), .ok (.cbSlaMemHL, []), .ok (.cbSlaA, []),
     .ok (.cbSraB, []), .ok (.cbSraC, []), .ok (.cbSraD, []), .ok (.cbSraE, []),
     .ok (.cbSraH, []), .ok (.cbSraL, []), .ok (.cbSraMemHL, []), .ok (.cbSraA, [])] := rfl

theorem test_encode_CB20 :
    [encode .cbSlaB, encode .cbSlaC, encode .cbSlaD, encode .cbSlaE,
     encode .cbSlaH, encode .cbSlaL, encode .cbSlaMemHL, encode .cbSlaA,
     encode .cbSraB, encode .cbSraC, encode .cbSraD, encode .cbSraE,
     encode .cbSraH, encode .cbSraL, encode .cbSraMemHL, encode .cbSraA] =
    [[0xCB#8, 0x20#8], [0xCB#8, 0x21#8], [0xCB#8, 0x22#8], [0xCB#8, 0x23#8],
     [0xCB#8, 0x24#8], [0xCB#8, 0x25#8], [0xCB#8, 0x26#8], [0xCB#8, 0x27#8],
     [0xCB#8, 0x28#8], [0xCB#8, 0x29#8], [0xCB#8, 0x2A#8], [0xCB#8, 0x2B#8],
     [0xCB#8, 0x2C#8], [0xCB#8, 0x2D#8], [0xCB#8, 0x2E#8], [0xCB#8, 0x2F#8]] := rfl

theorem test_decode_CB30 :
    [decode [0xCB#8, 0x30#8], decode [0xCB#8, 0x31#8], decode [0xCB#8, 0x32#8], decode [0xCB#8, 0x33#8],
     decode [0xCB#8, 0x34#8], decode [0xCB#8, 0x35#8], decode [0xCB#8, 0x36#8], decode [0xCB#8, 0x37#8],
     decode [0xCB#8, 0x38#8], decode [0xCB#8, 0x39#8], decode [0xCB#8, 0x3A#8], decode [0xCB#8, 0x3B#8],
     decode [0xCB#8, 0x3C#8], decode [0xCB#8, 0x3D#8], decode [0xCB#8, 0x3E#8], decode [0xCB#8, 0x3F#8]] =
    [.ok (.cbSwapB, []), .ok (.cbSwapC, []), .ok (.cbSwapD, []), .ok (.cbSwapE, []),
     .ok (.cbSwapH, []), .ok (.cbSwapL, []), .ok (.cbSwapMemHL, []), .ok (.cbSwapA, []),
     .ok (.cbSrlB, []), .ok (.cbSrlC, []), .ok (.cbSrlD, []), .ok (.cbSrlE, []),
     .ok (.cbSrlH, []), .ok (.cbSrlL, []), .ok (.cbSrlMemHL, []), .ok (.cbSrlA, [])] := rfl

theorem test_encode_CB30 :
    [encode .cbSwapB, encode .cbSwapC, encode .cbSwapD, encode .cbSwapE,
     encode .cbSwapH, encode .cbSwapL, encode .cbSwapMemHL, encode .cbSwapA,
     encode .cbSrlB, encode .cbSrlC, encode .cbSrlD, encode .cbSrlE,
     encode .cbSrlH, encode .cbSrlL, encode .cbSrlMemHL, encode .cbSrlA] =
    [[0xCB#8, 0x30#8], [0xCB#8, 0x31#8], [0xCB#8, 0x32#8], [0xCB#8, 0x33#8],
     [0xCB#8, 0x34#8], [0xCB#8, 0x35#8], [0xCB#8, 0x36#8], [0xCB#8, 0x37#8],
     [0xCB#8, 0x38#8], [0xCB#8, 0x39#8], [0xCB#8, 0x3A#8], [0xCB#8, 0x3B#8],
     [0xCB#8, 0x3C#8], [0xCB#8, 0x3D#8], [0xCB#8, 0x3E#8], [0xCB#8, 0x3F#8]] := rfl

theorem test_decode_CB40 :
    [decode [0xCB#8, 0x40#8], decode [0xCB#8, 0x41#8], decode [0xCB#8, 0x42#8], decode [0xCB#8, 0x43#8],
     decode [0xCB#8, 0x44#8], decode [0xCB#8, 0x45#8], decode [0xCB#8, 0x46#8], decode [0xCB#8, 0x47#8],
     decode [0xCB#8, 0x48#8], decode [0xCB#8, 0x49#8], decode [0xCB#8, 0x4A#8], decode [0xCB#8, 0x4B#8],
     decode [0xCB#8, 0x4C#8], decode [0xCB#8, 0x4D#8], decode [0xCB#8, 0x4E#8], decode [0xCB#8, 0x4F#8]] =
    [.ok (.bit0B, []), .ok (.bit0C, []), .ok (.bit0D, []), .ok (.bit0E, []),
     .ok (.bit0H, []), .ok (.bit0L, []), .ok (.bit0MemHL, []), .ok (.bit0A, []),
     .ok (.bit1B, []), .ok (.bit1C, []), .ok (.bit1D, []), .ok (.bit1E, []),
     .ok (.bit1H, []), .ok (.bit1L, []), .ok (.bit1MemHL, []), .ok (.bit1A, [])] := rfl

theorem test_encode_CB40 :
    [encode .bit0B, encode .bit0C, encode .bit0D, encode .bit0E,
     encode .bit0H, encode .bit0L, encode .bit0MemHL, encode .bit0A,
     encode .bit1B, encode .bit1C, encode .bit1D, encode .bit1E,
     encode .bit1H, encode .bit1L, encode .bit1MemHL, encode .bit1A] =
    [[0xCB#8, 0x40#8], [0xCB#8, 0x41#8], [0xCB#8, 0x42#8], [0xCB#8, 0x43#8],
     [0xCB#8, 0x44#8], [0xCB#8, 0x45#8], [0xCB#8, 0x46#8], [0xCB#8, 0x47#8],
     [0xCB#8, 0x48#8], [0xCB#8, 0x49#8], [0xCB#8, 0x4A#8], [0xCB#8, 0x4B#8],
     [0xCB#8, 0x4C#8], [0xCB#8, 0x4D#8], [0xCB#8, 0x4E#8], [0xCB#8, 0x4F#8]] := rfl

theorem test_decode_CB50 :
    [decode [0xCB#8, 0x50#8], decode [0xCB#8, 0x51#8], decode [0xCB#8, 0x52#8], decode [0xCB#8, 0x53#8],
     decode [0xCB#8, 0x54#8], decode [0xCB#8, 0x55#8], decode [0xCB#8, 0x56#8], decode [0xCB#8, 0x57#8],
     decode [0xCB#8, 0x58#8], decode [0xCB#8, 0x59#8], decode [0xCB#8, 0x5A#8], decode [0xCB#8, 0x5B#8],
     decode [0xCB#8, 0x5C#8], decode [0xCB#8, 0x5D#8], decode [0xCB#8, 0x5E#8], decode [0xCB#8, 0x5F#8]] =
    [.ok (.bit2B, []), .ok (.bit2C, []), .ok (.bit2D, []), .ok (.bit2E, []),
     .ok (.bit2H, []), .ok (.bit2L, []), .ok (.bit2MemHL, []), .ok (.bit2A, []),
     .ok (.bit3B, []), .ok (.bit3C, []), .ok (.bit3D, []), .ok (.bit3E, []),
     .ok (.bit3H, []), .ok (.bit3L, []), .ok (.bit3MemHL, []), .ok (.bit3A, [])] := rfl

theorem test_encode_CB50 :
    [encode .bit2B, encode .bit2C, encode .bit2D, encode .bit2E,
     encode .bit2H, encode .bit2L, encode .bit2MemHL, encode .bit2A,
     encode .bit3B, encode .bit3C, encode .bit3D, encode .bit3E,
     encode .bit3H, encode .bit3L, encode .bit3MemHL, encode .bit3A] =
    [[0xCB#8, 0x50#8], [0xCB#8, 0x51#8], [0xCB#8, 0x52#8], [0xCB#8, 0x53#8],
     [0xCB#8, 0x54#8], [0xCB#8, 0x55#8], [0xCB#8, 0x56#8], [0xCB#8, 0x57#8],
     [0xCB#8, 0x58#8], [0xCB#8, 0x59#8], [0xCB#8, 0x5A#8], [0xCB#8, 0x5B#8],
     [0xCB#8, 0x5C#8], [0xCB#8, 0x5D#8], [0xCB#8, 0x5E#8], [0xCB#8, 0x5F#8]] := rfl

theorem test_decode_CB60 :
    [decode [0xCB#8, 0x60#8], decode [0xCB#8, 0x61#8], decode [0xCB#8, 0x62#8], decode [0xCB#8, 0x63#8],
     decode [0xCB#8, 0x64#8], decode [0xCB#8, 0x65#8], decode [0xCB#8, 0x66#8], decode [0xCB#8, 0x67#8],
     decode [0xCB#8, 0x68#8], decode [0xCB#8, 0x69#8], decode [0xCB#8, 0x6A#8], decode [0xCB#8, 0x6B#8],
     decode [0xCB#8, 0x6C#8], decode [0xCB#8, 0x6D#8], decode [0xCB#8, 0x6E#8], decode [0xCB#8, 0x6F#8]] =
    [.ok (.bit4B, []), .ok (.bit4C, []), .ok (.bit4D, []), .ok (.bit4E, []),
     .ok (.bit4H, []), .ok (.bit4L, []), .ok (.bit4MemHL, []), .ok (.bit4A, []),
     .ok (.bit5B, []), .ok (.bit5C, []), .ok (.bit5D, []), .ok (.bit5E, []),
     .ok (.bit5H, []), .ok (.bit5L, []), .ok (.bit5MemHL, []), .ok (.bit5A, [])] := rfl

theorem test_encode_CB60 :
    [encode .bit4B, encode .bit4C, encode .bit4D, encode .bit4E,
     encode .bit4H, encode .bit4L, encode .bit4MemHL, encode .bit4A,
     encode .bit5B, encode .bit5C, encode .bit5D, encode .bit5E,
     encode .bit5H, encode .bit5L, encode .bit5MemHL, encode .bit5A] =
    [[0xCB#8, 0x60#8], [0xCB#8, 0x61#8], [0xCB#8, 0x62#8], [0xCB#8, 0x63#8],
     [0xCB#8, 0x64#8], [0xCB#8, 0x65#8], [0xCB#8, 0x66#8], [0xCB#8, 0x67#8],
     [0xCB#8, 0x68#8], [0xCB#8, 0x69#8], [0xCB#8, 0x6A#8], [0xCB#8, 0x6B#8],
     [0xCB#8, 0x6C#8], [0xCB#8, 0x6D#8], [0xCB#8, 0x6E#8], [0xCB#8, 0x6F#8]] := rfl

theorem test_decode_CB70 :
    [decode [0xCB#8, 0x70#8], decode [0xCB#8, 0x71#8], decode [0xCB#8, 0x72#8], decode [0xCB#8, 0x73#8],
     decode [0xCB#8, 0x74#8], decode [0xCB#8, 0x75#8], decode [0xCB#8, 0x76#8], decode [0xCB#8, 0x77#8],
     decode [0xCB#8, 0x78#8], decode [0xCB#8, 0x79#8], decode [0xCB#8, 0x7A#8], decode [0xCB#8, 0x7B#8],
     decode [0xCB#8, 0x7C#8], decode [0xCB#8, 0x7D#8], decode [0xCB#8, 0x7E#8], decode [0xCB#8, 0x7F#8]] =
    [.ok (.bit6B, []), .ok (.bit6C, []), .ok (.bit6D, []), .ok (.bit6E, []),
     .ok (.bit6H, []), .ok (.bit6L, []), .ok (.bit6MemHL, []), .ok (.bit6A, []),
     .ok (.bit7B, []), .ok (.bit7C, []), .ok (.bit7D, []), .ok (.bit7E, []),
     .ok (.bit7H, []), .ok (.bit7L, []), .ok (.bit7MemHL, []), .ok (.bit7A, [])] := rfl

theorem test_encode_CB70 :
    [encode .bit6B, encode .bit6C, encode .bit6D, encode .bit6E,
     encode .bit6H, encode .bit6L, encode .bit6MemHL, encode .bit6A,
     encode .bit7B, encode .bit7C, encode .bit7D, encode .bit7E,
     encode .bit7H, encode .bit7L, encode .bit7MemHL, encode .bit7A] =
    [[0xCB#8, 0x70#8], [0xCB#8, 0x71#8], [0xCB#8, 0x72#8], [0xCB#8, 0x73#8],
     [0xCB#8, 0x74#8], [0xCB#8, 0x75#8], [0xCB#8, 0x76#8], [0xCB#8, 0x77#8],
     [0xCB#8, 0x78#8], [0xCB#8, 0x79#8], [0xCB#8, 0x7A#8], [0xCB#8, 0x7B#8],
     [0xCB#8, 0x7C#8], [0xCB#8, 0x7D#8], [0xCB#8, 0x7E#8], [0xCB#8, 0x7F#8]] := rfl

theorem test_decode_CB80 :
    [decode [0xCB#8, 0x80#8], decode [0xCB#8, 0x81#8], decode [0xCB#8, 0x82#8], decode [0xCB#8, 0x83#8],
     decode [0xCB#8, 0x84#8], decode [0xCB#8, 0x85#8], decode [0xCB#8, 0x86#8], decode [0xCB#8, 0x87#8],
     decode [0xCB#8, 0x88#8], decode [0xCB#8, 0x89#8], decode [0xCB#8, 0x8A#8], decode [0xCB#8, 0x8B#8],
     decode [0xCB#8, 0x8C#8], decode [0xCB#8, 0x8D#8], decode [0xCB#8, 0x8E#8], decode [0xCB#8, 0x8F#8]] =
    [.ok (.res0B, []), .ok (.res0C, []), .ok (.res0D, []), .ok (.res0E, []),
     .ok (.res0H, []), .ok (.res0L, []), .ok (.res0MemHL, []), .ok (.res0A, []),
     .ok (.res1B, []), .ok (.res1C, []), .ok (.res1D, []), .ok (.res1E, []),
     .ok (.res1H, []), .ok (.res1L, []), .ok (.res1MemHL, []), .ok (.res1A, [])] := rfl

theorem test_encode_CB80 :
    [encode .res0B, encode .res0C, encode .res0D, encode .res0E,
     encode .res0H, encode .res0L, encode .res0MemHL, encode .res0A,
     encode .res1B, encode .res1C, encode .res1D, encode .res1E,
     encode .res1H, encode .res1L, encode .res1MemHL, encode .res1A] =
    [[0xCB#8, 0x80#8], [0xCB#8, 0x81#8], [0xCB#8, 0x82#8], [0xCB#8, 0x83#8],
     [0xCB#8, 0x84#8], [0xCB#8, 0x85#8], [0xCB#8, 0x86#8], [0xCB#8, 0x87#8],
     [0xCB#8, 0x88#8], [0xCB#8, 0x89#8], [0xCB#8, 0x8A#8], [0xCB#8, 0x8B#8],
     [0xCB#8, 0x8C#8], [0xCB#8, 0x8D#8], [0xCB#8, 0x8E#8], [0xCB#8, 0x8F#8]] := rfl

theorem test_decode_CB90 :
    [decode [0xCB#8, 0x90#8], decode [0xCB#8, 0x91#8], decode [0xCB#8, 0x92#8], decode [0xCB#8, 0x93#8],
     decode [0xCB#8, 0x94#8], decode [0xCB#8, 0x95#8], decode [0xCB#8, 0x96#8], decode [0xCB#8, 0x97#8],
     decode [0xCB#8, 0x98#8], decode [0xCB#8, 0x99#8], decode [0xCB#8, 0x9A#8], decode [0xCB#8, 0x9B#8],
     decode [0xCB#8, 0x9C#8], decode [0xCB#8, 0x9D#8], decode [0xCB#8, 0x9E#8], decode [0xCB#8, 0x9F#8]] =
    [.ok (.res2B, []), .ok (.res2C, []), .ok (.res2D, []), .ok (.res2E, []),
     .ok (.res2H, []), .ok (.res2L, []), .ok (.res2MemHL, []), .ok (.res2A, []),
     .ok (.res3B, []), .ok (.res3C, []), .ok (.res3D, []), .ok (.res3E, []),
     .ok (.res3H, []), .ok (.res3L, []), .ok (.res3MemHL, []), .ok (.res3A, [])] := rfl

theorem test_encode_CB90 :
    [encode .res2B, encode .res2C, encode .res2D, encode .res2E,
     encode .res2H, encode .res2L, encode .res2MemHL, encode .res2A,
     encode .res3B, encode .res3C, encode .res3D, encode .res3E,
     encode .res3H, encode .res3L, encode .res3MemHL, encode .res3A] =
    [[0xCB#8, 0x90#8], [0xCB#8, 0x91#8], [0xCB#8, 0x92#8], [0xCB#8, 0x93#8],
     [0xCB#8, 0x94#8], [0xCB#8, 0x95#8], [0xCB#8, 0x96#8], [0xCB#8, 0x97#8],
     [0xCB#8, 0x98#8], [0xCB#8, 0x99#8], [0xCB#8, 0x9A#8], [0xCB#8, 0x9B#8],
     [0xCB#8, 0x9C#8], [0xCB#8, 0x9D#8], [0xCB#8, 0x9E#8], [0xCB#8, 0x9F#8]] := rfl

theorem test_decode_CBA0 :
    [decode [0xCB#8, 0xA0#8], decode [0xCB#8, 0xA1#8], decode [0xCB#8, 0xA2#8], decode [0xCB#8, 0xA3#8],
     decode [0xCB#8, 0xA4#8], decode [0xCB#8, 0xA5#8], decode [0xCB#8, 0xA6#8], decode [0xCB#8, 0xA7#8],
     decode [0xCB#8, 0xA8#8], decode [0xCB#8, 0xA9#8], decode [0xCB#8, 0xAA#8], decode [0xCB#8, 0xAB#8],
     decode [0xCB#8, 0xAC#8], decode [0xCB#8, 0xAD#8], decode [0xCB#8, 0xAE#8], decode [0xCB#8, 0xAF#8]] =
    [.ok (.res4B, []), .ok (.res4C, []), .ok (.res4D, []), .ok (.res4E, []),
     .ok (.res4H, []), .ok (.res4L, []), .ok (.res4MemHL, []), .ok (.res4A, []),
     .ok (.res5B, []), .ok (.res5C, []), .ok (.res5D, []), .ok (.res5E, []),
     .ok (.res5H, []), .ok (.res5L, []), .ok (.res5MemHL, []), .ok (.res5A, [])] := rfl

theorem test_encode_CBA0 :
    [encode .res4B, encode .res4C, encode .res4D, encode .res4E,
     encode .res4H, encode .res4L, encode .res4MemHL, encode .res4A,
     encode .res5B, encode .res5C, encode .res5D, encode .res5E,
     encode .res5H, encode .res5L, encode .res5MemHL, encode .res5A] =
    [[0xCB#8, 0xA0#8], [0xCB#8, 0xA1#8], [0xCB#8, 0xA2#8], [0xCB#8, 0xA3#8],
     [0xCB#8, 0xA4#8], [0xCB#8, 0xA5#8], [0xCB#8, 0xA6#8], [0xCB#8, 0xA7#8],
     [0xCB#8, 0xA8#8], [0xCB#8, 0xA9#8], [0xCB#8, 0xAA#8], [0xCB#8, 0xAB#8],
     [0xCB#8, 0xAC#8], [0xCB#8, 0xAD#8], [0xCB#8, 0xAE#8], [0xCB#8, 0xAF#8]] := rfl

theorem test_decode_CBB0 :
    [decode [0xCB#8, 0xB0#8], decode [0xCB#8, 0xB1#8], decode [0xCB#8, 0xB2#8], decode [0xCB#8, 0xB3#8],
     decode [0xCB#8, 0xB4#8], decode [0xCB#8, 0xB5#8], decode [0xCB#8, 0xB6#8], decode [0xCB#8, 0xB7#8],
     decode [0xCB#8, 0xB8#8], decode [0xCB#8, 0xB9#8], decode [0xCB#8, 0xBA#8], decode [0xCB#8, 0xBB#8],
     decode [0xCB#8, 0xBC#8], decode [0xCB#8, 0xBD#8], decode [0xCB#8, 0xBE#8], decode [0xCB#8, 0xBF#8]] =
    [.ok (.res6B, []), .ok (.res6C, []), .ok (.res6D, []), .ok (.res6E, []),
     .ok (.res6H, []), .ok (.res6L, []), .ok (.res6MemHL, []), .ok (.res6A, []),
     .ok (.res7B, []), .ok (.res7C, []), .ok (.res7D, []), .ok (.res7E, []),
     .ok (.res7H, []), .ok (.res7L, []), .ok (.res7MemHL, []), .ok (.res7A, [])] := rfl

theorem test_encode_CBB0 :
    [encode .res6B, encode .res6C, encode .res6D, encode .res6E,
     encode .res6H, encode .res6L, encode .res6MemHL, encode .res6A,
     encode .res7B, encode .res7C, encode .res7D, encode .res7E,
     encode .res7H, encode .res7L, encode .res7MemHL, encode .res7A] =
    [[0xCB#8, 0xB0#8], [0xCB#8, 0xB1#8], [0xCB#8, 0xB2#8], [0xCB#8, 0xB3#8],
     [0xCB#8, 0xB4#8], [0xCB#8, 0xB5#8], [0xCB#8, 0xB6#8], [0xCB#8, 0xB7#8],
     [0xCB#8, 0xB8#8], [0xCB#8, 0xB9#8], [0xCB#8, 0xBA#8], [0xCB#8, 0xBB#8],
     [0xCB#8, 0xBC#8], [0xCB#8, 0xBD#8], [0xCB#8, 0xBE#8], [0xCB#8, 0xBF#8]] := rfl

theorem test_decode_CBC0 :
    [decode [0xCB#8, 0xC0#8], decode [0xCB#8, 0xC1#8], decode [0xCB#8, 0xC2#8], decode [0xCB#8, 0xC3#8],
     decode [0xCB#8, 0xC4#8], decode [0xCB#8, 0xC5#8], decode [0xCB#8, 0xC6#8], decode [0xCB#8, 0xC7#8],
     decode [0xCB#8, 0xC8#8], decode [0xCB#8, 0xC9#8], decode [0xCB#8, 0xCA#8], decode [0xCB#8, 0xCB#8],
     decode [0xCB#8, 0xCC#8], decode [0xCB#8, 0xCD#8], decode [0xCB#8, 0xCE#8], decode [0xCB#8, 0xCF#8]] =
    [.ok (.set0B, []), .ok (.set0C, []), .ok (.set0D, []), .ok (.set0E, []),
     .ok (.set0H, []), .ok (.set0L, []), .ok (.set0MemHL, []), .ok (.set0A, []),
     .ok (.set1B, []), .ok (.set1C, []), .ok (.set1D, []), .ok (.set1E, []),
     .ok (.set1H, []), .ok (.set1L, []), .ok (.set1MemHL, []), .ok (.set1A, [])] := rfl

theorem test_encode_CBC0 :
    [encode .set0B, encode .set0C, encode .set0D, encode .set0E,
     encode .set0H, encode .set0L, encode .set0MemHL, encode .set0A,
     encode .set1B, encode .set1C, encode .set1D, encode .set1E,
     encode .set1H, encode .set1L, encode .set1MemHL, encode .set1A] =
    [[0xCB#8, 0xC0#8], [0xCB#8, 0xC1#8], [0xCB#8, 0xC2#8], [0xCB#8, 0xC3#8],
     [0xCB#8, 0xC4#8], [0xCB#8, 0xC5#8], [0xCB#8, 0xC6#8], [0xCB#8, 0xC7#8],
     [0xCB#8, 0xC8#8], [0xCB#8, 0xC9#8], [0xCB#8, 0xCA#8], [0xCB#8, 0xCB#8],
     [0xCB#8, 0xCC#8], [0xCB#8, 0xCD#8], [0xCB#8, 0xCE#8], [0xCB#8, 0xCF#8]] := rfl

theorem test_decode_CBD0 :
    [decode [0xCB#8, 0xD0#8], decode [0xCB#8, 0xD1#8], decode [0xCB#8, 0xD2#8], decode [0xCB#8, 0xD3#8],
     decode [0xCB#8, 0xD4#8], decode [0xCB#8, 0xD5#8], decode [0xCB#8, 0xD6#8], decode [0xCB#8, 0xD7#8],
     decode [0xCB#8, 0xD8#8], decode [0xCB#8, 0xD9#8], decode [0xCB#8, 0xDA#8], decode [0xCB#8, 0xDB#8],
     decode [0xCB#8, 0xDC#8], decode [0xCB#8, 0xDD#8], decode [0xCB#8, 0xDE#8], decode [0xCB#8, 0xDF#8]] =
    [.ok (.set2B, []), .ok (.set2C, []), .ok (.set2D, []), .ok (.set2E, []),
     .ok (.set2H, []), .ok (.set2L, []), .ok (.set2MemHL, []), .ok (.set2A, []),
     .ok (.set3B, []), .ok (.set3C, []), .ok (.set3D, []), .ok (.set3E, []),
     .ok (.set3H, []), .ok (.set3L, []), .ok (.set3MemHL, []), .ok (.set3A, [])] := rfl

theorem test_encode_CBD0 :
    [encode .set2B, encode .set2C, encode .set2D, encode .set2E,
     encode .set2H, encode .set2L, encode .set2MemHL, encode .set2A,
     encode .set3B, encode .set3C, encode .set3D, encode .set3E,
     encode .set3H, encode .set3L, encode .set3MemHL, encode .set3A] =
    [[0xCB#8, 0xD0#8], [0xCB#8, 0xD1#8], [0xCB#8, 0xD2#8], [0xCB#8, 0xD3#8],
     [0xCB#8, 0xD4#8], [0xCB#8, 0xD5#8], [0xCB#8, 0xD6#8], [0xCB#8, 0xD7#8],
     [0xCB#8, 0xD8#8], [0xCB#8, 0xD9#8], [0xCB#8, 0xDA#8], [0xCB#8, 0xDB#8],
     [0xCB#8, 0xDC#8], [0xCB#8, 0xDD#8], [0xCB#8, 0xDE#8], [0xCB#8, 0xDF#8]] := rfl

theorem test_decode_CBE0 :
    [decode [0xCB#8, 0xE0#8], decode [0xCB#8, 0xE1#8], decode [0xCB#8, 0xE2#8], decode [0xCB#8, 0xE3#8],
     decode [0xCB#8, 0xE4#8], decode [0xCB#8, 0xE5#8], decode [0xCB#8, 0xE6#8], decode [0xCB#8, 0xE7#8],
     decode [0xCB#8, 0xE8#8], decode [0xCB#8, 0xE9#8], decode [0xCB#8, 0xEA#8], decode [0xCB#8, 0xEB#8],
     decode [0xCB#8, 0xEC#8], decode [0xCB#8, 0xED#8], decode [0xCB#8, 0xEE#8], decode [0xCB#8, 0xEF#8]] =
    [.ok (.set4B, []), .ok (.set4C, []), .ok (.set4D, []), .ok (.set4E, []),
     .ok (.set4H, []), .ok (.set4L, []), .ok (.set4MemHL, []), .ok (.set4A, []),
     .ok (.set5B, []), .ok (.set5C, []), .ok (.set5D, []), .ok (.set5E, []),
     .ok (.set5H, []), .ok (.set5L, []), .ok (.set5MemHL, []), .ok (.set5A, [])] := rfl

theorem test_encode_CBE0 :
    [encode .set4B, encode .set4C, encode .set4D, encode .set4E,
     encode .set4H, encode .set4L, encode .set4MemHL, encode .set4A,
     encode .set5B, encode .set5C, encode .set5D, encode .set5E,
     encode .set5H, encode .set5L, encode .set5MemHL, encode .set5A] =
    [[0xCB#8, 0xE0#8], [0xCB#8, 0xE1#8], [0xCB#8, 0xE2#8], [0xCB#8, 0xE3#8],
     [0xCB#8, 0xE4#8], [0xCB#8, 0xE5#8], [0xCB#8, 0xE6#8], [0xCB#8, 0xE7#8],
     [0xCB#8, 0xE8#8], [0xCB#8, 0xE9#8], [0xCB#8, 0xEA#8], [0xCB#8, 0xEB#8],
     [0xCB#8, 0xEC#8], [0xCB#8, 0xED#8], [0xCB#8, 0xEE#8], [0xCB#8, 0xEF#8]] := rfl

theorem test_decode_CBF0 :
    [decode [0xCB#8, 0xF0#8], decode [0xCB#8, 0xF1#8], decode [0xCB#8, 0xF2#8], decode [0xCB#8, 0xF3#8],
     decode [0xCB#8, 0xF4#8], decode [0xCB#8, 0xF5#8], decode [0xCB#8, 0xF6#8], decode [0xCB#8, 0xF7#8],
     decode [0xCB#8, 0xF8#8], decode [0xCB#8, 0xF9#8], decode [0xCB#8, 0xFA#8], decode [0xCB#8, 0xFB#8],
     decode [0xCB#8, 0xFC#8], decode [0xCB#8, 0xFD#8], decode [0xCB#8, 0xFE#8], decode [0xCB#8, 0xFF#8]] =
    [.ok (.set6B, []), .ok (.set6C, []), .ok (.set6D, []), .ok (.set6E, []),
     .ok (.set6H, []), .ok (.set6L, []), .ok (.set6MemHL, []), .ok (.set6A, []),
     .ok (.set7B, []), .ok (.set7C, []), .ok (.set7D, []), .ok (.set7E, []),
     .ok (.set7H, []), .ok (.set7L, []), .ok (.set7MemHL, []), .ok (.set7A, [])] := rfl

theorem test_encode_CBF0 :
    [encode .set6B, encode .set6C, encode .set6D, encode .set6E,
     encode .set6H, encode .set6L, encode .set6MemHL, encode .set6A,
     encode .set7B, encode .set7C, encode .set7D, encode .set7E,
     encode .set7H, encode .set7L, encode .set7MemHL, encode .set7A] =
    [[0xCB#8, 0xF0#8], [0xCB#8, 0xF1#8], [0xCB#8, 0xF2#8], [0xCB#8, 0xF3#8],
     [0xCB#8, 0xF4#8], [0xCB#8, 0xF5#8], [0xCB#8, 0xF6#8], [0xCB#8, 0xF7#8],
     [0xCB#8, 0xF8#8], [0xCB#8, 0xF9#8], [0xCB#8, 0xFA#8], [0xCB#8, 0xFB#8],
     [0xCB#8, 0xFC#8], [0xCB#8, 0xFD#8], [0xCB#8, 0xFE#8], [0xCB#8, 0xFF#8]] := rfl

/-- Too few bytes are refused by name. -/
theorem test_decode_refuses_short_input :
    (match decode [] with | .error .noBytes => true | _ => false) = true ∧
    (match decode [0x01#8, 0x34#8] with | .error (.truncated b) => decide (b = 0x01#8) | _ => false) = true ∧
    (match decode [0xCB#8] with | .error (.truncated b) => decide (b = 0xCB#8) | _ => false) = true := by decide

/-- Table words: a one-byte row, a row whose operand bits are missing, and a CB row. -/
theorem test_table_words :
    decodeTableWord 8 0x41 = some .ldBC ∧ decodeTableWord 8 0x01 = some (.ldBCN16 0x0000#16) ∧
    decodeTableWord 24 0x123401 = some (.ldBCN16 0x1234#16) ∧ decodeTableWord 16 0xCB7C = some .bit7H ∧
    decodeTableWord 8 0xD3 = some .illegalD3 := by decide

/-! Steps. -/

/-- Bytes placed in memory one by one. -/
def place : List (Word × Byte) → State → State
  | [], s => s
  | (a, v) :: more, s => place more (loadByte s a v)

/-- The state after reset with these instruction bytes at 0x0100, where its PC is. -/
def code (bytes : List Byte) (s : State) : State :=
  match bytes with
  | [b0] => place [(0x0100#16, b0)] s
  | [b0, b1] => place [(0x0100#16, b0), (0x0101#16, b1)] s
  | b0 :: b1 :: b2 :: _ => place [(0x0100#16, b0), (0x0101#16, b1), (0x0102#16, b2)] s
  | [] => s

/-- The state after one step. -/
def stepped (s : State) : State :=
  match step s with
  | .next t => t
  | .fault _ => s
  | .refused _ => s

/-- LD B,C (R100). -/
theorem test_V1 : let t := stepped (code [0x41#8] { State.reset with c := 0x5A#8 }); t.bc = 0x5A5A#16 := by decide
/-- LD D,0x9C (R101). -/
theorem test_V3 : let t := stepped (code [0x16#8, 0x9C#8] State.reset); t.de = 0x9C00#16 := by decide
/-- LD E,(HL) (R102). -/
theorem test_V4 :
    let t := stepped (code [0x5E#8] (place [(0xC123#16, 0xAB#8)] { State.reset with h := 0xC1#8, l := 0x23#8 }))
    t.de = 0x00AB#16 := by decide
/-- LD (HL),0x55 (R104). -/
theorem test_V6 :
    let t := stepped (code [0x36#8, 0x55#8] { State.reset with h := 0xFF#8, l := 0x80#8 })
    peek t 0xFF80#16 = 0x55#8 := by decide
/-- LD A,(BC) (R105). -/
theorem test_V8 :
    let t := stepped (code [0x0A#8] (place [(0xC010#16, 0x42#8)] { State.reset with b := 0xE0#8, c := 0x10#8 }))
    t.a = 0x42#8 := by decide
/-- LD A,(DE) (R106). -/
theorem test_V9 :
    let t := stepped (code [0x1A#8] { State.reset with d := 0x80#8, e := 0x00#8 })
    t.a = 0xFF#8 := by decide
/-- LD A,(HL+) (R118). -/
theorem test_V12 :
    let t := stepped (code [0x2A#8] { State.reset with h := 0xFF#8, l := 0xFF#8 })
    t.a = 0xFF#8 ∧ t.hl = 0x0000#16 := by decide
/-- LD A,(HL-) (R119). -/
theorem test_V13 :
    let t := stepped (code [0x3A#8] (place [(0x0000#16, 0x31#8)] { State.reset with h := 0x00#8, l := 0x00#8 }))
    t.a = 0x31#8 ∧ t.hl = 0xFFFF#16 := by decide
/-- LD (HL+),A (R116). -/
theorem test_V14 :
    let t := stepped (code [0x22#8] { State.reset with h := 0xC0#8, l := 0xFF#8, a := 0x7E#8 })
    t.hl = 0xC100#16 ∧ peek t 0xC0FF#16 = 0x7E#8 := by decide
/-- LD (HL-),A (R117). -/
theorem test_V15 :
    let t := stepped (code [0x32#8] { State.reset with h := 0xC0#8, l := 0x00#8, a := 0x7E#8 })
    t.hl = 0xBFFF#16 ∧ peek t 0xC000#16 = 0x7E#8 := by decide
/-- LD A,(0xC234) (R109). -/
theorem test_V16 :
    let t := stepped (code [0xFA#8, 0x34#8, 0xC2#8] (place [(0xC234#16, 0x66#8)] State.reset))
    t.a = 0x66#8 := by decide
/-- LD (0xFF80),A (R110). -/
theorem test_V17 :
    let t := stepped (code [0xEA#8, 0x80#8, 0xFF#8] { State.reset with a := 0xA5#8 })
    peek t 0xFF80#16 = 0xA5#8 := by decide
/-- LDH A,(0x90) (R112). -/
theorem test_V18 :
    let t := stepped (code [0xF0#8, 0x90#8] (place [(0xFF90#16, 0x3D#8)] State.reset))
    t.a = 0x3D#8 := by decide
/-- LDH (0xFE),A (R113). -/
theorem test_V20 :
    let t := stepped (code [0xE0#8, 0xFE#8] { State.reset with a := 0x12#8 })
    peek t 0xFFFE#16 = 0x12#8 := by decide
/-- LDH A,(C) (R114). -/
theorem test_V21 :
    let t := stepped (code [0xF2#8] (place [(0xFF80#16, 0x77#8)] { State.reset with c := 0x80#8 }))
    t.a = 0x77#8 := by decide
/-- LD BC,0x1234 (R134). -/
theorem test_V30 : let t := stepped (code [0x01#8, 0x34#8, 0x12#8] State.reset); t.bc = 0x1234#16 := by decide
/-- LD (0xDFFF),SP (R135). -/
theorem test_V32 :
    let t := stepped (code [0x08#8, 0xFF#8, 0xDF#8] { State.reset with sp := 0x1234#16 })
    peek t 0xDFFF#16 = 0x34#8 ∧ peek t 0xE000#16 = 0x12#8 := by decide
/-- LD SP,HL (R136). -/
theorem test_V33 :
    let t := stepped (code [0xF9#8] { State.reset with h := 0xD0#8, l := 0x00#8 })
    t.sp = 0xD000#16 := by decide
/-- LD HL,SP+8 (R137). -/
theorem test_V34 :
    let t := stepped (code [0xF8#8, 0x08#8] { State.reset with sp := 0xFFF8#16 })
    t.f = 0x30#8 := by decide
/-- LD HL,SP-1 (R137). -/
theorem test_V36 :
    let t := stepped (code [0xF8#8, 0xFF#8] { State.reset with sp := 0x0001#16 })
    t.f = 0x30#8 := by decide
/-- PUSH BC (R138). -/
theorem test_V38 :
    let t := stepped (code [0xC5#8] { State.reset with b := 0x12#8, c := 0x34#8, sp := 0xD000#16 })
    t.sp = 0xCFFE#16 ∧ peek t 0xCFFF#16 = 0x12#8 ∧ peek t 0xCFFE#16 = 0x34#8 := by decide
/-- PUSH HL, SP wraps (R138). -/
theorem test_V40 :
    let t := stepped (code [0xE5#8] { State.reset with h := 0xAB#8, l := 0xCD#8, sp := 0x0001#16 })
    t.sp = 0xFFFF#16 ∧ peek t 0x0000#16 = 0x00#8 := by decide
/-- POP AF (R139). -/
theorem test_V41 :
    let t := stepped (code [0xF1#8] (place [(0xCFFE#16, 0xFF#8), (0xCFFF#16, 0x12#8)] { State.reset with sp := 0xCFFE#16 }))
    t.a = 0x12#8 ∧ t.sp = 0xD000#16 ∧ t.f = 0xF0#8 := by decide
/-- POP BC, SP wraps (R140). -/
theorem test_V43 :
    let t := stepped (code [0xC1#8] (place [(0x0000#16, 0x3C#8)] { State.reset with sp := 0xFFFF#16 }))
    t.bc = 0x3CFF#16 ∧ t.sp = 0x0001#16 := by decide
/-- ADD A,B (R160). -/
theorem test_V50 :
    let t := stepped (code [0x80#8] { State.reset with a := 0x3A#8, b := 0xC6#8 })
    t.a = 0x00#8 ∧ t.f = 0xB0#8 := by decide
/-- ADC A,0xFF (R165). -/
theorem test_V57 :
    let t := stepped (code [0xCE#8, 0xFF#8] { State.reset with a := 0x01#8, f := 0x10#8 })
    t.f = 0x30#8 := by decide
/-- ADC A,(HL) (R164). -/
theorem test_V58 :
    let t := stepped (code [0x8E#8] (place [(0xC000#16, 0x1E#8)] { State.reset with a := 0xE1#8, h := 0xC0#8, l := 0x00#8, f := 0x10#8 }))
    t.a = 0x00#8 ∧ t.f = 0xB0#8 := by decide
/-- SUB A,B (R166). -/
theorem test_V59 :
    let t := stepped (code [0x90#8] { State.reset with a := 0x10#8, b := 0x01#8 })
    t.a = 0x0F#8 ∧ t.f = 0x60#8 := by decide
/-- SUB A,0x20 (R168). -/
theorem test_V61 :
    let t := stepped (code [0xD6#8, 0x20#8] { State.reset with a := 0x10#8 })
    t.a = 0xF0#8 ∧ t.f = 0x50#8 := by decide
/-- SBC A,D (R169). -/
theorem test_V63 :
    let t := stepped (code [0x9A#8] { State.reset with a := 0x10#8, d := 0x0F#8, f := 0x10#8 })
    t.a = 0x00#8 ∧ t.f = 0xE0#8 := by decide
/-- SBC A,0x00 (R171). -/
theorem test_V65 :
    let t := stepped (code [0xDE#8, 0x00#8] { State.reset with a := 0x00#8, f := 0x10#8 })
    t.a = 0xFF#8 ∧ t.f = 0x70#8 := by decide
/-- SBC A,(HL) (R170). -/
theorem test_V66 :
    let t := stepped (code [0x9E#8] (place [(0xC000#16, 0x4F#8)] { State.reset with a := 0x3B#8, h := 0xC0#8, l := 0x00#8, f := 0x10#8 }))
    t.a = 0xEB#8 ∧ t.f = 0x70#8 := by decide
/-- AND A,B (R172). -/
theorem test_V67 :
    let t := stepped (code [0xA0#8] { State.reset with a := 0xF0#8, b := 0x0F#8, f := 0x50#8 })
    t.a = 0x00#8 ∧ t.f = 0xA0#8 := by decide
/-- XOR A,A (R175). -/
theorem test_V70 :
    let t := stepped (code [0xAF#8] { State.reset with a := 0x99#8, f := 0xF0#8 })
    t.a = 0x00#8 ∧ t.f = 0x80#8 := by decide
/-- OR A,(HL) (R179). -/
theorem test_V75 :
    let t := stepped (code [0xB6#8] (place [(0xC000#16, 0x01#8)] { State.reset with a := 0x10#8, h := 0xC0#8, l := 0x00#8 }))
    t.a = 0x11#8 ∧ t.f = 0x00#8 := by decide
/-- CP A,0x20 (R183). -/
theorem test_V76 :
    let t := stepped (code [0xFE#8, 0x20#8] { State.reset with a := 0x10#8 })
    t.f = 0x50#8 := by decide
/-- INC B (R184). -/
theorem test_V79 :
    let t := stepped (code [0x04#8] { State.reset with b := 0xFF#8, f := 0x10#8 })
    t.bc = 0x0000#16 ∧ t.f = 0xB0#8 := by decide
/-- INC (HL) (R185). -/
theorem test_V81 :
    let t := stepped (code [0x34#8] (place [(0xC000#16, 0x7F#8)] { State.reset with h := 0xC0#8, l := 0x00#8 }))
    t.f = 0x20#8 ∧ peek t 0xC000#16 = 0x80#8 := by decide
/-- DEC B (R186). -/
theorem test_V82 :
    let t := stepped (code [0x05#8] { State.reset with b := 0x00#8, f := 0x10#8 })
    t.bc = 0xFF00#16 ∧ t.f = 0x70#8 := by decide
/-- DEC (HL) (R187). -/
theorem test_V85 :
    let t := stepped (code [0x35#8] (place [(0xFF80#16, 0x01#8)] { State.reset with h := 0xFF#8, l := 0x80#8 }))
    t.f = 0xC0#8 ∧ peek t 0xFF80#16 = 0x00#8 := by decide
/-- DAA after 0x38+0x45 (R188). -/
theorem test_V87 :
    let t := stepped (code [0x27#8] { State.reset with a := 0x7D#8, f := 0x00#8 })
    t.a = 0x83#8 ∧ t.f = 0x00#8 := by decide
/-- DAA after 0x99+0x01 (R188). -/
theorem test_V88 :
    let t := stepped (code [0x27#8] { State.reset with a := 0x9A#8, f := 0x00#8 })
    t.a = 0x00#8 ∧ t.f = 0x90#8 := by decide
/-- DAA after 0x42-0x13 (R188). -/
theorem test_V91 :
    let t := stepped (code [0x27#8] { State.reset with a := 0x2F#8, f := 0x60#8 })
    t.a = 0x29#8 ∧ t.f = 0x40#8 := by decide
/-- DAA, N=1, A=0x9A, no H no C (R188). -/
theorem test_V93 :
    let t := stepped (code [0x27#8] { State.reset with a := 0x9A#8, f := 0x40#8 })
    t.a = 0x9A#8 ∧ t.f = 0x40#8 := by decide
/-- CPL (R189). -/
theorem test_V95 :
    let t := stepped (code [0x2F#8] { State.reset with a := 0x35#8, f := 0x90#8 })
    t.a = 0xCA#8 ∧ t.f = 0xF0#8 := by decide
/-- SCF (R190). -/
theorem test_V96 : let t := stepped (code [0x37#8] { State.reset with f := 0xE0#8 }); t.f = 0x90#8 := by decide
/-- CCF (R191). -/
theorem test_V97 : let t := stepped (code [0x3F#8] { State.reset with f := 0xF0#8 }); t.f = 0x80#8 := by decide
/-- ADD HL,BC (R202). -/
theorem test_V100 :
    let t := stepped (code [0x09#8] { State.reset with h := 0x0F#8, l := 0xFF#8, b := 0x00#8, c := 0x01#8, f := 0x80#8 })
    t.hl = 0x1000#16 ∧ t.f = 0xA0#8 := by decide
/-- ADD HL,SP (R202). -/
theorem test_V103 :
    let t := stepped (code [0x39#8] { State.reset with h := 0x00#8, l := 0xFF#8, sp := 0x0001#16 })
    t.hl = 0x0100#16 ∧ t.f = 0x00#8 := by decide
/-- INC BC (R203). -/
theorem test_V104 :
    let t := stepped (code [0x03#8] { State.reset with b := 0xFF#8, c := 0xFF#8, f := 0xF0#8 })
    t.bc = 0x0000#16 ∧ t.f = 0xF0#8 := by decide
/-- DEC DE (R204). -/
theorem test_V106 :
    let t := stepped (code [0x1B#8] { State.reset with d := 0x00#8, e := 0x00#8, f := 0x00#8 })
    t.de = 0xFFFF#16 ∧ t.f = 0x00#8 := by decide
/-- ADD SP,+1 (R205). -/
theorem test_V108 :
    let t := stepped (code [0xE8#8, 0x01#8] { State.reset with sp := 0x0FFF#16, f := 0xC0#8 })
    t.sp = 0x1000#16 ∧ t.f = 0x30#8 := by decide
/-- ADD SP,-128 (R205). -/
theorem test_V111 :
    let t := stepped (code [0xE8#8, 0x80#8] { State.reset with sp := 0x0080#16 })
    t.sp = 0x0000#16 ∧ t.f = 0x10#8 := by decide
/-- RLCA (R211). -/
theorem test_V120 :
    let t := stepped (code [0x07#8] { State.reset with a := 0x80#8, f := 0xE0#8 })
    t.a = 0x01#8 ∧ t.f = 0x10#8 := by decide
/-- RRCA (R212). -/
theorem test_V122 :
    let t := stepped (code [0x0F#8] { State.reset with a := 0x01#8 })
    t.a = 0x80#8 ∧ t.f = 0x10#8 := by decide
/-- RLA (R213). -/
theorem test_V123 :
    let t := stepped (code [0x17#8] { State.reset with a := 0x80#8, f := 0x00#8 })
    t.a = 0x00#8 ∧ t.f = 0x10#8 := by decide
/-- RRA (R214). -/
theorem test_V125 :
    let t := stepped (code [0x1F#8] { State.reset with a := 0x01#8, f := 0x10#8 })
    t.a = 0x80#8 := by decide
/-- RLC B (R215). -/
theorem test_V126 :
    let t := stepped (code [0xCB#8, 0x00#8] { State.reset with b := 0x85#8 })
    t.bc = 0x0B00#16 ∧ t.f = 0x10#8 := by decide
/-- RRC (HL) (R218). -/
theorem test_V130 :
    let t := stepped (code [0xCB#8, 0x0E#8] (place [(0xC000#16, 0x02#8)] { State.reset with h := 0xC0#8, l := 0x00#8 }))
    peek t 0xC000#16 = 0x01#8 := by decide
/-- RL (HL) (R220). -/
theorem test_V132 :
    let t := stepped (code [0xCB#8, 0x16#8] (place [(0xC000#16, 0x40#8)] { State.reset with h := 0xC0#8, l := 0x00#8, f := 0x10#8 }))
    t.f = 0x00#8 ∧ peek t 0xC000#16 = 0x81#8 := by decide
/-- RR E (R221). -/
theorem test_V133 :
    let t := stepped (code [0xCB#8, 0x1B#8] { State.reset with e := 0x01#8, f := 0x00#8 })
    t.de = 0x0000#16 ∧ t.f = 0x90#8 := by decide
/-- SLA H (R223). -/
theorem test_V135 :
    let t := stepped (code [0xCB#8, 0x24#8] { State.reset with h := 0xC0#8 })
    t.hl = 0x8000#16 ∧ t.f = 0x10#8 := by decide
/-- SRA (HL) (R226). -/
theorem test_V138 :
    let t := stepped (code [0xCB#8, 0x2E#8] (place [(0xC000#16, 0x01#8)] { State.reset with h := 0xC0#8, l := 0x00#8 }))
    t.f = 0x90#8 ∧ peek t 0xC000#16 = 0x00#8 := by decide
/-- SWAP A (R227). -/
theorem test_V139 :
    let t := stepped (code [0xCB#8, 0x37#8] { State.reset with a := 0xF1#8, f := 0xF0#8 })
    t.a = 0x1F#8 ∧ t.f = 0x00#8 := by decide
/-- SRL B (R229). -/
theorem test_V141 :
    let t := stepped (code [0xCB#8, 0x38#8] { State.reset with b := 0x81#8 })
    t.bc = 0x4000#16 ∧ t.f = 0x10#8 := by decide
/-- BIT 0,B (R231). -/
theorem test_V144 :
    let t := stepped (code [0xCB#8, 0x40#8] { State.reset with b := 0xFE#8, f := 0x00#8 })
    t.f = 0xA0#8 := by decide
/-- BIT 3,(HL) (R232). -/
theorem test_V145 :
    let t := stepped (code [0xCB#8, 0x5E#8] (place [(0xC000#16, 0x08#8)] { State.reset with h := 0xC0#8, l := 0x00#8, f := 0x10#8 }))
    t.f = 0x30#8 := by decide
/-- RES 0,A (R233). -/
theorem test_V147 :
    let t := stepped (code [0xCB#8, 0x87#8] { State.reset with a := 0xFF#8, f := 0xF0#8 })
    t.a = 0xFE#8 := by decide
/-- RES 7,(HL) (R234). -/
theorem test_V148 :
    let t := stepped (code [0xCB#8, 0xBE#8] (place [(0xC000#16, 0xFF#8)] { State.reset with h := 0xC0#8, l := 0x00#8 }))
    peek t 0xC000#16 = 0x7F#8 := by decide
/-- SET 7,B (R235). -/
theorem test_V149 :
    let t := stepped (code [0xCB#8, 0xF8#8] { State.reset with b := 0x00#8 })
    t.bc = 0x8000#16 := by decide
/-- SET 0,(HL) (R236). -/
theorem test_V150 :
    let t := stepped (code [0xCB#8, 0xC6#8] (place [(0xC000#16, 0x01#8)] { State.reset with h := 0xC0#8, l := 0x00#8 }))
    peek t 0xC000#16 = 0x01#8 := by decide
/-- JP 0x8000 (R251). -/
theorem test_V160 : let t := stepped (code [0xC3#8, 0x00#8, 0x80#8] State.reset); t.pc = 0x8000#16 := by decide
/-- JP C,0x1234 taken (R252). -/
theorem test_V163 :
    let t := stepped (code [0xDA#8, 0x34#8, 0x12#8] { State.reset with f := 0x10#8 })
    t.pc = 0x1234#16 := by decide
/-- JP HL (R253). -/
theorem test_V164 :
    let t := stepped (code [0xE9#8] { State.reset with h := 0xC0#8, l := 0x00#8 })
    t.pc = 0xC000#16 := by decide
/-- JR -128 (R254). -/
theorem test_V166 : let t := stepped (code [0x18#8, 0x80#8] State.reset); t.pc = 0x0082#16 := by decide
/-- JR wraps down (R254). -/
theorem test_V168 :
    let t := stepped (place [(0x0000#16, 0x18#8), (0x0001#16, 0x80#8)] { State.reset with pc := 0x0000#16 })
    t.pc = 0xFF82#16 := by decide
/-- JR NZ,+5 taken (R255). -/
theorem test_V169 :
    let t := stepped (code [0x20#8, 0x05#8] { State.reset with f := 0x00#8 })
    t.pc = 0x0107#16 ∧ t.out.cycles = 3 := by decide
/-- JR NZ,+5 not taken (R255). -/
theorem test_V170 :
    let t := stepped (code [0x20#8, 0x05#8] { State.reset with f := 0x80#8 })
    t.out.cycles = 2 := by decide
/-- CALL 0x2000 (R256). -/
theorem test_V174 :
    let t := stepped (code [0xCD#8, 0x00#8, 0x20#8] { State.reset with sp := 0xD000#16 })
    t.sp = 0xCFFE#16 ∧ t.pc = 0x2000#16 ∧ peek t 0xCFFF#16 = 0x01#8 ∧ peek t 0xCFFE#16 = 0x03#8 := by decide
/-- CALL Z,0x2000 not taken (R257). -/
theorem test_V176 :
    let t := stepped (code [0xCC#8, 0x00#8, 0x20#8] { State.reset with sp := 0xD000#16, f := 0x00#8 })
    t.out.cycles = 3 := by decide
/-- RET NC taken (R259). -/
theorem test_V178 :
    let t := stepped (code [0xD0#8] (place [(0xCFFE#16, 0x03#8), (0xCFFF#16, 0x01#8)] { State.reset with sp := 0xCFFE#16, f := 0x00#8 }))
    t.sp = 0xD000#16 ∧ t.pc = 0x0103#16 ∧ t.out.cycles = 5 := by decide
/-- RET NC not taken (R259). -/
theorem test_V179 :
    let t := stepped (code [0xD0#8] (place [(0xCFFE#16, 0x03#8), (0xCFFF#16, 0x01#8)] { State.reset with sp := 0xCFFE#16, f := 0x10#8 }))
    t.out.cycles = 2 := by decide
/-- RETI with EI pending (R260). -/
theorem test_V181 :
    let t := stepped (code [0xD9#8] (place [(0xCFFE#16, 0x03#8), (0xCFFF#16, 0x01#8)] { State.reset with sp := 0xCFFE#16, ime := false, imePending := true }))
    t.sp = 0xD000#16 ∧ t.pc = 0x0103#16 ∧ t.ime = true ∧ t.imePending = false := by decide
/-- RST 0x38 (R262). -/
theorem test_V182 :
    let t := stepped (code [0xFF#8] { State.reset with sp := 0xD000#16 })
    t.sp = 0xCFFE#16 ∧ t.pc = 0x0038#16 ∧ peek t 0xCFFF#16 = 0x01#8 ∧ peek t 0xCFFE#16 = 0x01#8 := by decide
/-- HALT (R271). -/
theorem test_V191 : let t := stepped (code [0x76#8] State.reset); t.run = .halted := by decide
/-- STOP, second byte 0x55 (R272). -/
theorem test_V193 :
    let t := stepped (code [0x10#8, 0x55#8] State.reset)
    t.run = .stopped ∧ t.out.cycles = 1 := by decide
/-- DI after EI (R273). -/
theorem test_V195 :
    let t := stepped (code [0xF3#8] { State.reset with ime := false, imePending := true })
    t.ime = false ∧ t.imePending = false := by decide
/-- EI (R274). -/
theorem test_V196 :
    let t := stepped (code [0xFB#8] { State.reset with ime := false })
    t.ime = false ∧ t.imePending = true := by decide
/-- NOP after EI (R270). -/
theorem test_V197 :
    let t := stepped (code [0x00#8] { State.reset with ime := false, imePending := true })
    t.ime = true ∧ t.imePending = false := by decide
/-- illegal 0xDD (R275). -/
theorem test_V200 :
    let t := stepped (code [0xDD#8] { State.reset with a := 0x12#8 })
    t.pc = 0x0100#16 ∧ t.run = .locked ∧ t.out.cycles = 1 := by decide
/-- illegal 0xFC after EI (R275). -/
theorem test_V201 :
    let t := stepped (code [0xFC#8] { State.reset with imePending := true })
    t.pc = 0x0100#16 ∧ t.imePending = true ∧ t.run = .locked ∧ t.out.cycles = 1 := by decide
/-- step while Locked (R354). -/
theorem test_V203 :
    let t := stepped (code [0x3C#8] { State.reset with run := .locked })
    t.pc = 0x0100#16 ∧ t.run = .locked ∧ t.out.cycles = 1 := by decide

/-! The driver's moves (spec/95_test_vectors.md, X rows), the router (M rows), and placing an instruction. -/

theorem test_X1 :
    let s : State := { State.reset with ime := true, pc := 0x1234#16, sp := 0xD000#16 }
    let t := afterMove (.deliverInterrupt 0x0050#16) s
    t.pc = 0x0050#16 ∧ t.sp = 0xCFFE#16 ∧ peek t 0xCFFF#16 = 0x12#8 ∧ peek t 0xCFFE#16 = 0x34#8 ∧ t.ime = false := by decide
theorem test_X3 : afterMove (.deliverInterrupt 0x0040#16) State.reset = State.reset := by decide
theorem test_X8 : (afterMove .wake { State.reset with run := .halted, pc := 0x0106#16 }).run = .normal := by decide
theorem test_X10 : afterMove .wake State.reset = State.reset := by decide
theorem test_X11 :
    let t := afterMove .reset { State.reset with run := .locked, a := 0x12#8, ime := true, sp := 0x0000#16 }
    t.run = .normal ∧ t.a = 0x00#8 ∧ t.ime = false ∧ t.sp = 0xFFFE#16 := by decide
theorem test_M1 : peek (memWrite State.reset 0xE010#16 0x5A#8) 0xC010#16 = 0x5A#8 := by decide
theorem test_M4 : peek (memWrite State.reset 0xDE00#16 0x77#8) 0xFE00#16 = 0xFF#8 := by decide
theorem test_M5 : peek (memWrite (place [(0x0000#16, 0x31#8)] State.reset) 0x0000#16 0x12#8) 0x0000#16 = 0x31#8 := by
  decide
theorem test_M9 : peek (memWrite State.reset 0xFFFF#16 0x1F#8) 0xFFFF#16 = 0xFF#8 := by decide
theorem test_M10 :
    (memRead16 (place [(0xDFFF#16, 0x34#8), (0xC000#16, 0x12#8)] State.reset) 0xDFFF#16).1 = 0x1234#16 := by decide
theorem test_M11 : (memRead16 (place [(0x0000#16, 0x31#8)] State.reset) 0xFFFF#16).1 = 0x31FF#16 := by decide

/-- A placed instruction is the one the next step runs: `LD B,0x34` after reset, and `SET 3,E`. -/
theorem test_withFetchWord :
    (stepped (State.reset.withFetchWord 16 0x3406)).b = 0x34#8 ∧
    (stepped (State.reset.withFetchWord 16 0xCBDB)).e = 0x08#8 ∧
    (stepped (State.reset.withFetchWord 8 0x76)).run = .halted := by decide

/-- Three steps to the end of a run: `LD A,0x80`, `ADD A,A`, `HALT`. -/
theorem test_run_to_end :
    (match runToEnd 9 (place [(0x0100#16, 0x3E#8), (0x0101#16, 0x80#8), (0x0102#16, 0x87#8), (0x0103#16, 0x76#8)]
        State.reset) with
      | .next t => t.endedWell && decide (t.a = 0x00#8) && decide (t.f = 0x90#8)
      | _ => false) = true := by decide

/-! Witnesses: the hypotheses of each statement are met by the state and operands named. -/

/-- A state with the memory invariant, ready to run, with a stack in working RAM and a collaborator attached. -/
def ready : State := { State.reset with pc := 0xC000#16, sp := 0xD000#16, ext := .attached [] }

theorem reset_inv : State.reset.Inv := ⟨by decide, by decide, by decide⟩
theorem ready_inv : ready.Inv := ⟨by decide, by decide, by decide⟩

theorem not_external_of {a : Word} (h : decide ((0x8000 ≤ a.toNat ∧ a.toNat < 0xC000) ∨
    (0xFE00 ≤ a.toNat ∧ a.toNat < 0xFF80) ∨ a.toNat = 0xFFFF) = false) : ¬ isExternal a := by
  have h' := of_decide_eq_false h
  exact h'

theorem witness_DecodedBytesAreTheEncoding : decode [0x01#8, 0x34#8, 0x12#8, 0x76#8] = .ok (.ldBCN16 0x1234#16, [0x76#8]) :=
  rfl

/-- Both cases of the second hypothesis: no collaborator with PC in an external region, and a collaborator with the
three bytes at the end of the ROM window and across the top of working RAM. -/
theorem witness_StepRunsTheInstructionAtPC :
    let s1 : State := { State.reset with pc := 0x8000#16 }
    let s2 : State := { ready with pc := 0x7FFD#16 }
    let s3 : State := { ready with pc := 0xDFFE#16 }
    (s1.run = .normal ∧ s1.ext = .absent ∧
      decode [peek s1 0x8000#16, peek s1 0x8001#16, peek s1 0x8002#16] = .ok (.rst38, [0xFF#8, 0xFF#8])) ∧
    (s2.run = .normal ∧ ¬ isExternal 0x7FFD#16 ∧ ¬ isExternal 0x7FFE#16 ∧ ¬ isExternal 0x7FFF#16 ∧
      decode [peek s2 0x7FFD#16, peek s2 0x7FFE#16, peek s2 0x7FFF#16] = .ok (.nop, [0x00#8, 0x00#8])) ∧
    (s3.run = .normal ∧ ¬ isExternal 0xDFFE#16 ∧ ¬ isExternal 0xDFFF#16 ∧ ¬ isExternal 0xE000#16 ∧
      decode [peek s3 0xDFFE#16, peek s3 0xDFFF#16, peek s3 0xE000#16] = .ok (.nop, [0x00#8, 0x00#8])) :=
  ⟨⟨rfl, rfl, rfl⟩,
    ⟨rfl, not_external_of (by decide), not_external_of (by decide), not_external_of (by decide), rfl⟩,
    ⟨rfl, not_external_of (by decide), not_external_of (by decide), not_external_of (by decide), rfl⟩⟩

/-- One, two and three bytes. -/
theorem witness_StepFetchesExactlyTheInstructionsBytes :
    let s := code [0x01#8, 0x06#8, 0x34#8] ready
    s.run = .normal ∧ decode (fetchBytes 1 0xC000#16 ready).1 = .ok (.nop, []) ∧
    decode (fetchBytes 2 0x0101#16 s).1 = .ok (.ldBN8 0x34#8, []) ∧
    decode (fetchBytes 3 0x0100#16 s).1 = .ok (.ldBCN16 0x3406#16, []) := ⟨rfl, rfl, rfl, rfl⟩

theorem witness_StepOutsideNormalDoesNothing :
    RunState.halted ≠ .normal ∧ RunState.stopped ≠ .normal ∧ RunState.locked ≠ .normal := by decide

/-- A next state by each of the three ways out of Normal, and by none. -/
theorem witness_OnlyHaltStopAndIllegalBytesLeaveNormal :
    ready.run = .normal ∧ (exec .halt ready = .next (ends { ready with run := .halted } 1 1)) ∧
    (exec (.stop 0x00#8) ready = .next (ends { ready with run := .stopped } 2 1)) ∧
    (exec .illegalD3 ready = .next (takeInvalidOpcode 0xD3#8 ready)) ∧ exec .nop ready = .next (ends ready 1 1) :=
  ⟨rfl, rfl, rfl, rfl, rfl⟩

theorem nop_transfers_nothing : ¬ ControlTransfer .nop := by
  intro h
  generalize hi : Instr.nop = i at h
  cases h with
  | jpCc cc a => cases cc <;> cases hi
  | jrCc cc e => cases cc <;> cases hi
  | callCc cc a => cases cc <;> cases hi
  | retCc cc => cases cc <;> cases hi
  | rst t => fin_cases t <;> cases hi
  | _ => cases hi

theorem witness_PcPassesTheInstructionUnlessItTransfersControl :
    ¬ ControlTransfer .nop ∧ Instr.nop.wellFormed = true ∧ exec .nop ready = .next (ends ready 1 1) :=
  ⟨nop_transfers_nothing, rfl, rfl⟩

theorem witness_UnwrittenFlagsKeepTheirValues :
    WritesNoFlag .halt ∧ exec .halt ready = .next (ends { ready with run := .halted } 1 1) ∧
    Instr.incB = Sel.inc8 (.reg .b) ∧ Instr.decMemHL = Sel.dec8 .atHL ∧ (∃ t, exec (Sel.inc8 (.reg .b)) ready = .next t) ∧
    (∃ t, exec (Sel.addHL .sp) ready = .next t) ∧ (∃ t, exec (Sel.bit 7 .atHL) ready = .next t) ∧
    (∃ t, exec .cpl ready = .next t) ∧ (∃ t, exec .scf ready = .next t) ∧ (∃ t, exec .ccf ready = .next t) ∧
    (∃ t, exec .daa ready = .next t) :=
  ⟨.halt, rfl, rfl, rfl, ⟨_, rfl⟩, ⟨_, rfl⟩, ⟨_, rfl⟩, ⟨_, rfl⟩, ⟨_, rfl⟩, ⟨_, rfl⟩, ⟨_, rfl⟩⟩

theorem nop_writes_no_sp : ¬ WritesSP .nop := by
  intro h
  generalize hi : Instr.nop = i at h
  cases h with
  | push p => cases p <;> cases hi
  | pop p => cases p <;> cases hi
  | callCc cc a => cases cc <;> cases hi
  | retCc cc => cases cc <;> cases hi
  | rst t => fin_cases t <;> cases hi
  | _ => cases hi

theorem witness_OnlyStackAndSPInstructionsChangeSP :
    ¬ WritesSP .nop ∧ exec .nop ready = .next (ends ready 1 1) := ⟨nop_writes_no_sp, rfl⟩

/-- `LD (HL),n8` with HL 0xC000 stores there alone, and 0xC001 and the first byte of ROM are other cells. -/
theorem witness_MemoryChangesOnlyWhereTheInstructionStores :
    let s : State := { ready with h := 0xC0#8 }
    (∃ t, exec (.ldMemHLN8 0x55#8) s = .next t) ∧ ¬ isExternal 0xC001#16 ∧ ¬ isExternal 0x0000#16 ∧
    ∀ a, Stores (.ldMemHLN8 0x55#8) s a → route a ≠ route 0xC001#16 ∧ route a ≠ route 0x0000#16 := by
  refine ⟨⟨_, rfl⟩, not_external_of (by decide), not_external_of (by decide), fun a h => ?_⟩
  have ha : a = 0xC000#16 := by
    generalize hi : Instr.ldMemHLN8 0x55#8 = i at h
    cases h with
    | ldToHL r => rfl
    | ldN8ToHL n => rfl
    | incAtHL => rfl
    | decAtHL => rfl
    | rotAtHL f => rfl
    | resAtHL b => rfl
    | setAtHL b => rfl
    | ldToHLInc => rfl
    | ldToHLDec => rfl
    | pushHigh p => cases p <;> cases hi
    | pushLow p => cases p <;> cases hi
    | callCcHigh cc a h => cases cc <;> cases hi
    | callCcLow cc a h => cases cc <;> cases hi
    | rstHigh t => fin_cases t <;> cases hi
    | rstLow t => fin_cases t <;> cases hi
    | _ => cases hi
  rw [ha]
  decide

/-- IME changes by `DI`, by `RETI`, and by the commit. -/
theorem witness_ImeChangesOnlyByDiRetiAndTheCommit :
    (stepped (code [0xF3#8] { State.reset with ime := true })).ime = false ∧
    (stepped (code [0xD9#8] State.reset)).ime = true ∧
    (stepped { State.reset with imePending := true }).ime = true := by decide

theorem witness_EiTakesEffectAfterTheNextInstruction :
    let s1 := code [0xFB#8] State.reset
    let s2 := { State.reset with imePending := true }
    let s3 := code [0xF3#8] State.reset
    let s4 := code [0xD3#8] State.reset
    (s1.run = .normal ∧ s1.imePending = false ∧ (fetch s1).1 = .ei ∧ ∃ t, step s1 = .next t) ∧
    (s2.run = .normal ∧ s2.imePending = true ∧ (fetch s2).1.wellFormed = true ∧ (fetch s2).1 ≠ .di ∧
      ∃ t, step s2 = .next t) ∧
    (s3.run = .normal ∧ (fetch s3).1 = .di ∧ ∃ t, step s3 = .next t) ∧
    (s4.run = .normal ∧ (fetch s4).1.wellFormed = false ∧ ∃ t, step s4 = .next t) :=
  ⟨⟨rfl, rfl, rfl, _, rfl⟩, ⟨rfl, rfl, rfl, by decide, _, rfl⟩, ⟨rfl, rfl, _, rfl⟩, ⟨rfl, rfl, _, rfl⟩⟩

theorem witness_EveryStepKeepsTheInvariant : State.reset.Inv ∧ ∃ t, step State.reset = .next t :=
  ⟨reset_inv, _, rfl⟩

theorem witness_ResetMeetsTheInvariant :
    Memory.wf [(0x0100, 0x76#8), (0xFFFE, 0x01#8)] = true ∧ Memory.inCells [(0x0100, 0x76#8), (0xFFFE, 0x01#8)] = true := by
  decide

theorem witness_EveryDriverScheduleKeepsTheInvariant : ready.Inv := ready_inv

theorem witness_NoScheduleChangesRomOrParameters : inRom 0x0000#16 ∧ inRom 0x7FFF#16 := by
  constructor <;> (show _ < _; decide)

theorem witness_OnlyResetLeavesLocked :
    ({ ready with run := .locked } : State).run = .locked ∧
    Move.reset ∉ [Move.step, .wake, .deliverInterrupt 0x0040#16, .observe 0x8000#16] := ⟨rfl, by decide⟩

theorem witness_PairsAreComposedOfTheirBytes : (0x12F5#16 : Word).toNat = 256 * (0x12#8 : Byte).toNat + (0xF5#8 : Byte).toNat := by
  decide

theorem witness_FlagByteIsZNHCAndFourZeros : ({ ready with f := 0xB0#8 } : State).Inv :=
  ⟨by decide, by decide, by decide⟩

/-- The external clause: no collaborator, and an external byte. -/
theorem witness_MemoryChanges_external : State.reset.ext = .absent ∧ isExternal 0x8000#16 ∧ isExternal 0xFFFF#16 :=
  ⟨rfl, .inl (by decide), .inr (.inr rfl)⟩

/-- Each region of the router's table at its first and last address, with and without a collaborator. -/
theorem witness_ReadsFollowTheRoutersTable :
    (0x0000#16 : Word).toNat < 0x8000 ∧ (0x7FFF#16 : Word).toNat < 0x8000 ∧
    (0xC000 ≤ (0xC000#16 : Word).toNat ∧ (0xC000#16 : Word).toNat < 0xE000) ∧
    (0xC000 ≤ (0xDFFF#16 : Word).toNat ∧ (0xDFFF#16 : Word).toNat < 0xE000) ∧
    (0xE000 ≤ (0xE000#16 : Word).toNat ∧ (0xE000#16 : Word).toNat < 0xFE00) ∧
    (0xE000 ≤ (0xFDFF#16 : Word).toNat ∧ (0xFDFF#16 : Word).toNat < 0xFE00) ∧
    (0xFF80 ≤ (0xFF80#16 : Word).toNat ∧ (0xFF80#16 : Word).toNat < 0xFFFF) ∧
    (0xFF80 ≤ (0xFFFE#16 : Word).toNat ∧ (0xFFFE#16 : Word).toNat < 0xFFFF) ∧
    State.reset.ext = .absent ∧ ready.ext = .attached [] := by decide

theorem external_boundaries :
    isExternal 0x8000#16 ∧ isExternal 0xBFFF#16 ∧ isExternal 0xFE00#16 ∧ isExternal 0xFF7F#16 ∧ isExternal 0xFFFF#16 :=
  ⟨.inl (by decide), .inl (by decide), .inr (.inl (by decide)), .inr (.inl (by decide)), .inr (.inr rfl)⟩

/-- The same addresses, each written through. -/
theorem witness_WritesFollowTheRoutersTable :
    memWrite ready 0x7FFF#16 0x01#8 = ready ∧
    (memWrite ready 0xDFFF#16 0x01#8).mem = [(0xDFFF, 0x01#8)] ∧ (memWrite ready 0xE000#16 0x01#8).mem = [(0xC000, 0x01#8)] ∧
    (memWrite ready 0xFDFF#16 0x01#8).mem = [(0xDDFF, 0x01#8)] ∧ (memWrite ready 0xFF80#16 0x01#8).mem = [(0xFF80, 0x01#8)] ∧
    (memWrite ready 0xFFFF#16 0x01#8).ext = .attached [.write 0xFFFF#16 0x01#8] ∧
    memWrite State.reset 0x8000#16 0x01#8 = State.reset := by decide

/-- The clause on cells: a state of the invariant, one cell and its neighbour. -/
theorem witness_Writes_cells : ready.Inv ∧ Memory.get (Memory.set ready.mem 0xC000 0x01#8) 0xC000 = 0x01#8 ∧
    Memory.get (Memory.set ready.mem 0xC000 0x01#8) 0xC001 = 0x00#8 := ⟨ready_inv, rfl, rfl⟩

theorem witness_ReadAfterWriteGivesTheByteWritten :
    ready.Inv ∧ inRam 0xC000#16 ∧ inRam 0xFDFF#16 ∧ inRam 0xFF80#16 ∧ inRam 0xFFFE#16 ∧
    ¬ isExternal 0xC001#16 ∧ route 0xC001#16 ≠ route 0xC000#16 :=
  ⟨ready_inv, .inl (by decide), .inl (by decide), .inr (by decide), .inr (by decide), not_external_of (by decide),
    by decide⟩

theorem witness_EchoRamNamesTheCellsOfWorkingRam :
    0xE000 ≤ (0xE000#16 : Word).toNat ∧ (0xFDFF#16 : Word).toNat < 0xFE00 ∧ ready.Inv ∧
    0xDE00 ≤ (0xDE00#16 : Word).toNat ∧ (0xDFFF#16 : Word).toNat < 0xE000 ∧ (0xDDFF#16 : Word) ≠ 0xDE00#16 :=
  ⟨by decide, by decide, ready_inv, by decide, by decide, by decide⟩

theorem witness_PopReadsTheLowByteFirst : R16Stk.bc ≠ .af ∧ R16Stk.de ≠ .af ∧ R16Stk.hl ≠ .af := by decide

/-- The stack in working RAM, at the bottom of it, at the top of echo RAM, and at both ends of high RAM. -/
theorem witness_PushThenPopRoundTrips :
    ready.Inv ∧ inRam (ready.sp - 1#16) ∧ inRam (ready.sp - 2#16) ∧
    inRam (0xC002#16 - 1#16) ∧ inRam (0xC002#16 - 2#16) ∧ inRam (0xFE00#16 - 1#16) ∧ inRam (0xFE00#16 - 2#16) ∧
    inRam (0xFF82#16 - 1#16) ∧ inRam (0xFF82#16 - 2#16) ∧ inRam (0xFFFF#16 - 1#16) ∧ inRam (0xFFFF#16 - 2#16) ∧
    ∃ t u, exec (Sel.push .bc) ready = .next t ∧ exec (Sel.pop .af) t = .next u :=
  ⟨ready_inv, .inl (by decide), .inl (by decide), .inl (by decide), .inl (by decide), .inl (by decide), .inl (by decide),
    .inr (by decide), .inr (by decide), .inr (by decide), .inr (by decide), _, _, rfl, rfl⟩

theorem witness_operation_choices :
    (AluOp.add = .add ∨ AluOp.add = .adc) ∧ (AluOp.adc = .add ∨ AluOp.adc = .adc) ∧
    (AluOp.sub = .sub ∨ AluOp.sub = .sbc) ∧ (AluOp.sbc = .sub ∨ AluOp.sbc = .sbc) ∧
    (AluOp.and = .and ∨ AluOp.and = .xor ∨ AluOp.and = .or) ∧ (AluOp.xor = .and ∨ AluOp.xor = .xor ∨ AluOp.xor = .or) ∧
    (AluOp.or = .and ∨ AluOp.or = .xor ∨ AluOp.or = .or) := by decide

/-- Each condition true in one state and false in another: for the conditional jumps, calls and returns. -/
theorem witness_conditions :
    let s0 := State.reset
    let s1 := { State.reset with f := 0x90#8 }
    s0.flagZ = false ∧ s1.flagZ = true ∧ s0.flagC = false ∧ s1.flagC = true ∧
    s0.cond .nz = true ∧ s1.cond .nz = false ∧ s1.cond .z = true ∧ s0.cond .z = false ∧
    s0.cond .nc = true ∧ s1.cond .nc = false ∧ s1.cond .c = true ∧ s0.cond .c = false := by decide

theorem witness_ReturnComesBackBehindTheCall :
    ready.Inv ∧ inRam (ready.sp - 1#16) ∧ inRam (ready.sp - 2#16) ∧
    (∃ t u, exec (.callA16 0x2000#16) ready = .next t ∧ exec .ret t = .next u) ∧
    (∃ t u, exec (Sel.rst 7) ready = .next t ∧ exec .ret t = .next u) :=
  ⟨ready_inv, .inl (by decide), .inl (by decide), ⟨_, _, rfl, rfl⟩, ⟨_, _, rfl, rfl⟩⟩

theorem witness_IllegalBytesLockTheCore :
    Instr.illegalD3.illegalByte = some 0xD3#8 ∧ Instr.illegalFD.illegalByte = some 0xFD#8 ∧
    (let s := code [0xDD#8] State.reset; s.run = .normal ∧ peek s s.pc = 0xDD#8) ∧
    ({ ready with run := .locked } : State).run = .locked := by decide

theorem witness_DeliverInterruptPushesPCAndClearsIme :
    let s : State := { ready with ime := true }
    (s.ime = true ∧ (s.run = .normal ∨ s.run = .halted)) ∧
    (¬ (ready.ime = true ∧ (ready.run = .normal ∨ ready.run = .halted))) := by decide

theorem witness_WakeMakesAWaitingCoreRun :
    (RunState.halted = .halted ∨ RunState.halted = .stopped) ∧ (RunState.locked = .normal ∨ RunState.locked = .locked) := by
  decide

end Sys2Proof.Tests
end

section
/-! The register file and the flag byte (spec/10_state.md R11, R12, R14): what a write of a pair does to the pair's two
bytes, and the flag byte read back from its four flags. -/

open Sys2Proof.Claims

namespace Sys2Proof.Machine

/-- The model's flag byte is the rule's: both put the four flags in the high nibble (R14). -/
theorem packF_eq_flagByte (z n h c : Bool) : packF z n h c = flagByte z n h c := packF_eq z n h c

/-- A write of a pair by an operand of the first column of R75 (R11). -/
theorem setR16_pair16 (s : State) (hi lo : Byte) :
    s.setR16 .bc (pair16 hi lo) = { s with b := hi, c := lo } ∧
    s.setR16 .de (pair16 hi lo) = { s with d := hi, e := lo } ∧
    s.setR16 .hl (pair16 hi lo) = { s with h := hi, l := lo } := by
  simp only [State.setR16, hi8_pair16, lo8_pair16, and_self]

/-- A write of a pair by an operand of the second column of R75; the low byte of AF is masked (R11, R12). -/
theorem setStk_pair16 (s : State) (hi lo : Byte) :
    s.setStk .bc (pair16 hi lo) = { s with b := hi, c := lo } ∧
    s.setStk .de (pair16 hi lo) = { s with d := hi, e := lo } ∧
    s.setStk .hl (pair16 hi lo) = { s with h := hi, l := lo } ∧
    s.setStk .af (pair16 hi lo) = { s with a := hi, f := lo &&& 0xF0#8 } := by
  simp only [State.setStk, State.setF, hi8_pair16, lo8_pair16, and_self]

/-- Settles O23: the invariant's zero low nibble leaves nothing in F but its four flags. -/
theorem flagByteIsZNHCAndFourZeros : Obligations.FlagByteIsZNHCAndFourZeros := by
  intro s hs
  calc s.f = packF s.flagZ s.flagN s.flagH s.flagC := (packF_getLsbD s.f hs.flagsLow).symm
    _ = flagByte s.flagZ s.flagN s.flagH s.flagC := packF_eq_flagByte ..

/-- Settles O22: a pair read is the concatenation of its bytes by definition, and a word written is the concatenation
of the two bytes it is made of (`eq_pair16`). -/
theorem pairsAreComposedOfTheirBytes : Obligations.PairsAreComposedOfTheirBytes := by
  refine ⟨getR8_setR8, fun s r v => ⟨setR8_f s r v, setR8_sp s r v, setR8_pc s r v⟩,
    fun s => ⟨toNat_pair16 .., toNat_pair16 .., toNat_pair16 .., toNat_pair16 ..⟩, fun s v hi lo hv => ?_⟩
  obtain rfl := eq_pair16 hv
  obtain ⟨stkBC, stkDE, stkHL, stkAF⟩ := setStk_pair16 s hi lo
  obtain ⟨r16BC, r16DE, r16HL⟩ := setR16_pair16 s hi lo
  exact ⟨stkBC, stkDE, stkHL, stkAF, r16BC, r16DE, r16HL, rfl⟩

end Sys2Proof.Machine
end

section
/-! Memory and the router (spec/20_memory.md R43 to R45): a RAM access through the cell its address names, the echo, and
what a write to RAM leaves at every other address. -/

open Sys2Proof.Claims

namespace Sys2Proof.Machine

/-- A read of RAM gives the byte of the cell the address names and changes nothing. -/
theorem memRead_of_route_ram {a : Word} {k : Nat} (h : route a = .ram k) (s : State) :
    memRead s a = (Memory.get s.mem k, s) := by
  simp only [memRead, h]

/-- A write to RAM changes the cell the address names and nothing else. -/
theorem memWrite_of_route_ram {a : Word} {k : Nat} (h : route a = .ram k) (s : State) (v : Byte) :
    memWrite s a v = { s with mem := Memory.set s.mem k v } := by
  simp only [memWrite, h]

/-- An address in RAM is its cell's key, or the echo of it. -/
theorem toNat_of_route_ram {a : Word} {k : Nat} (h : route a = .ram k) :
    a.toNat = k ∨ (a.toNat = k + 0x2000 ∧ a.toNat < 0xFE00) := by
  simp only [route] at h
  split_ifs at h <;> have hk := Route.ram.inj h <;> omega

/-- What an external address reads as depends on the port alone. -/
theorem peek_congr_ext {s t : State} (he : t.ext = s.ext) {b : Word} (hb : route b = .ext) : peek t b = peek s b := by
  simp only [peek, memRead, hb, extRead, he]
  cases s.ext <;> rfl

/-- A write to RAM leaves every address that does not name its cell, those of the external port included. -/
theorem peek_memWrite_ne_of_route_ram {a b : Word} {k : Nat} (ha : route a = .ram k) (hne : route b ≠ route a)
    (s : State) (v : Byte) : peek (memWrite s a v) b = peek s b := by
  by_cases hb : route b = .ext
  · exact peek_congr_ext (by rw [memWrite_of_route_ram ha]) hb
  · exact peek_memWrite_ne s v (by simpa [hasCell] using hb) hne

/-- An echo address and the address 0x2000 below it name one cell of working RAM (R45). -/
theorem route_echo_pair {a : Word} (h1 : 0xE000 ≤ a.toNat) (h2 : a.toNat < 0xFE00) :
    ∃ k, route a = .ram k ∧ route (a - 0x2000#16) = .ram k := by
  have hsub : (a - 0x2000#16).toNat = a.toNat - 0x2000 := BitVec.toNat_sub_of_le (by bv_omega)
  refine ⟨a.toNat - 0x2000, route_echo h1 h2, ?_⟩
  rw [← hsub]
  exact route_working (by omega) (by omega)

/-- The last 512 bytes of working RAM have no echo: no second address names a cell of theirs (R45). -/
theorem eq_of_route_eq_unechoed {a b : Word} (h1 : 0xDE00 ≤ a.toNat) (h2 : a.toNat < 0xE000)
    (h : route b = route a) : b = a := by
  have hb := toNat_of_route_ram (h.trans (route_working (by omega) h2))
  exact BitVec.eq_of_toNat_eq (by omega)

/-- Settles O27: an echo address and the address 0x2000 below it have one route, and an access depends on its address
only by the route; in the last 512 bytes of working RAM no other address has the route. -/
theorem echoRamNamesTheCellsOfWorkingRam : Obligations.EchoRamNamesTheCellsOfWorkingRam := by
  refine fun s a v => ⟨fun h1 h2 => ?_, fun h1 h2 b hb => ?_⟩
  · obtain ⟨k, hecho, hwork⟩ := route_echo_pair h1 h2
    have hwrite : memWrite s a v = memWrite s (a - 0x2000#16) v := by
      rw [memWrite_of_route_ram hecho, memWrite_of_route_ram hwork]
    refine ⟨by rw [memRead_of_route_ram hecho, memRead_of_route_ram hwork], hwrite, fun hs => ⟨?_, ?_⟩⟩
    · rw [hwrite]
      exact peek_memWrite_same hs.memCanonical hwork v
    · rw [← hwrite]
      exact peek_memWrite_same hs.memCanonical hecho v
  · exact peek_memWrite_ne_of_route_ram (route_working (by omega) h2)
      (fun h => hb (eq_of_route_eq_unechoed h1 h2 h)) s v

end Sys2Proof.Machine
end

section
/-! The 8-bit loads (spec/40_load8.md R100 to R119): the bytes of each encoding, and each form's operation with the end
of its instruction. -/

open Sys2Proof.Claims

namespace Sys2Proof.Machine

/-- An instruction is encoded as bytes that the encoder writes for it, whose first byte announces their number (R70) and
from whose fields the decoder reads it back (R79, R80), whatever bytes follow. -/
theorem encodedAs_of_decodeBytes {i : Instr} {b0 : Byte} {more : List Byte} (henc : encode i = b0 :: more)
    (hlen : more.length + 1 = formatLength b0)
    (hdec : ∀ rest, decodeBytes b0 ((more ++ rest).getD 0 0#8) ((more ++ rest).getD 1 0#8) = i) :
    EncodedAs i (b0 :: more) := by
  refine ⟨henc, fun rest => ?_⟩
  have hmore : formatLength b0 - 1 = more.length := by omega
  rw [List.cons_append, decode_cons (by simp [hmore]), hdec, hmore, List.drop_left]

/-- `01dddsss` (R100). -/
theorem encodedAs_ld_reg_reg (r r' : R8) :
    EncodedAs (Sel.ld (.reg r) (.reg r')) [op (0x40 + 8 * r.code + r'.code)] := by
  cases r <;> cases r' <;> exact encodedAs_of_decodeBytes rfl rfl fun _ => rfl

/-- `01ddd110` (R102). -/
theorem encodedAs_ld_reg_atHL (r : R8) : EncodedAs (Sel.ld (.reg r) .atHL) [op (0x46 + 8 * r.code)] := by
  cases r <;> exact encodedAs_of_decodeBytes rfl rfl fun _ => rfl

/-- `01110sss` (R103). -/
theorem encodedAs_ld_atHL_reg (r : R8) : EncodedAs (Sel.ld .atHL (.reg r)) [op (0x70 + r.code)] := by
  cases r <;> exact encodedAs_of_decodeBytes rfl rfl fun _ => rfl

/-- `00ddd110` and the operand byte (R101). -/
theorem encodedAs_ldN8_reg (n : Byte) (r : R8) : EncodedAs (Sel.ldN8 n (.reg r)) [op (0x06 + 8 * r.code), n] := by
  cases r <;> exact encodedAs_of_decodeBytes rfl rfl fun _ => rfl

/-- `00pp1010`: the loads of A by an address of the third column of R75. -/
theorem encodedAs_ldAFrom (m : R16Mem) : EncodedAs (Sel.ldAFrom m) [op (0x0A + 16 * m.code)] := by
  cases m <;> exact encodedAs_of_decodeBytes rfl rfl fun _ => rfl

/-- `00pp0010`: the stores of A by an address of the third column of R75. -/
theorem encodedAs_ldToA (m : R16Mem) : EncodedAs (Sel.ldToA m) [op (0x02 + 16 * m.code)] := by
  cases m <;> exact encodedAs_of_decodeBytes rfl rfl fun _ => rfl

/-- A 16-bit operand is decoded from its two bytes, the low one first (R78). -/
theorem encodedAs_ldAMemA16 (a : Word) : EncodedAs (.ldAMemA16 a) [0xFA#8, lo8 a, hi8 a] :=
  encodedAs_of_decodeBytes rfl rfl fun _ => congrArg Instr.ldAMemA16 (pair16_hi8_lo8 a)

theorem encodedAs_ldMemA16A (a : Word) : EncodedAs (.ldMemA16A a) [0xEA#8, lo8 a, hi8 a] :=
  encodedAs_of_decodeBytes rfl rfl fun _ => congrArg Instr.ldMemA16A (pair16_hi8_lo8 a)

/-- An instruction whose form's operation ends by passing the instruction's bytes (R20). -/
theorem exec_of_shape_finish {i : Instr} {e : State → State} (h : Shape i e) {s t : State} {length cycles : Nat}
    (he : e s = t.finish length cycles) : exec i s = .next (ends t length cycles) := by
  rw [exec_of_shape h, he]
  rfl

/-- Adding 0xFFFF is the decrement modulo 65536 (R117, R119). -/
theorem ldAtHLAThen_neg_one (s : State) :
    ldAtHLAThen (-1#16) s = ((memWrite s s.hl s.a).setR16 .hl (s.hl - 1#16)).finish 1 2 := by
  rw [BitVec.sub_eq_add_neg]
  rfl

theorem ldAAtHLThen_neg_one (s : State) :
    ldAAtHLThen (-1#16) s =
      (((memRead s s.hl).2.setR8 .a (memRead s s.hl).1).setR16 .hl (s.hl - 1#16)).finish 1 2 := by
  rw [BitVec.sub_eq_add_neg]
  rfl

/-- Settles O28: each form's operation is the rule's, with the read at the HL of the starting state. -/
theorem ldLoadsARegister : Obligations.LdLoadsARegister := fun r r' n _ =>
  ⟨encodedAs_ld_reg_reg r r', exec_of_shape_finish (.ldRegReg r r') rfl,
    encodedAs_ldN8_reg n r, exec_of_shape_finish (.ldRegN8 r n) rfl,
    encodedAs_ld_reg_atHL r, exec_of_shape_finish (.ldRegAtHL r) rfl⟩

/-- Settles O29: both forms write their operand at HL. -/
theorem ldStoresARegisterOrAnImmediateAtHL : Obligations.LdStoresARegisterOrAnImmediateAtHL := fun r n _ =>
  ⟨encodedAs_ld_atHL_reg r, exec_of_shape_finish (.ldAtHLReg r) rfl,
    encodedAs_of_decodeBytes rfl rfl fun _ => rfl, exec_of_shape_finish (.ldAtHLN8 n) rfl⟩

/-- Settles O30: each instruction is one of the two forms `ldAFrom` and `ldToA` at its own address. -/
theorem accumulatorLoadsAndStoresUseTheirAddress : Obligations.AccumulatorLoadsAndStoresUseTheirAddress :=
  ⟨fun _ => ⟨encodedAs_ldAFrom .bc, exec_of_shape_finish .ldAMemBC rfl⟩,
    fun _ => ⟨encodedAs_ldAFrom .de, exec_of_shape_finish .ldAMemDE rfl⟩,
    fun a _ => ⟨encodedAs_ldAMemA16 a, exec_of_shape_finish (.ldAMemA16 a) rfl⟩,
    fun n _ => ⟨encodedAs_of_decodeBytes rfl rfl fun _ => rfl, exec_of_shape_finish (.ldhAMemA8 n) rfl⟩,
    fun _ => ⟨encodedAs_of_decodeBytes rfl rfl fun _ => rfl, exec_of_shape_finish .ldhAMemC rfl⟩,
    fun _ => ⟨encodedAs_ldToA .bc, exec_of_shape_finish .ldMemBCA rfl⟩,
    fun _ => ⟨encodedAs_ldToA .de, exec_of_shape_finish .ldMemDEA rfl⟩,
    fun a _ => ⟨encodedAs_ldMemA16A a, exec_of_shape_finish (.ldMemA16A a) rfl⟩,
    fun n _ => ⟨encodedAs_of_decodeBytes rfl rfl fun _ => rfl, exec_of_shape_finish (.ldhMemA8A n) rfl⟩,
    fun _ => ⟨encodedAs_of_decodeBytes rfl rfl fun _ => rfl, exec_of_shape_finish .ldhMemCA rfl⟩⟩

/-- Settles O31: the access is at the HL of the starting state, and HL then moves by 1 or by 0xFFFF. -/
theorem hlMovesAfterTheIncrementingAndDecrementingAccesses :
    Obligations.HLMovesAfterTheIncrementingAndDecrementingAccesses := fun s =>
  ⟨encodedAs_ldToA .hlInc, exec_of_shape_finish .ldMemHLIncA rfl,
    encodedAs_ldToA .hlDec, exec_of_shape_finish .ldMemHLDecA (ldAtHLAThen_neg_one s),
    encodedAs_ldAFrom .hlInc, exec_of_shape_finish .ldAMemHLInc rfl,
    encodedAs_ldAFrom .hlDec, exec_of_shape_finish .ldAMemHLDec (ldAAtHLThen_neg_one s)⟩

end Sys2Proof.Machine
end

section
/-! The 16-bit loads and the stack (spec/41_load16_stack.md R132 to R140), and SP plus a signed byte (spec/43_alu16.md
R201, R205): the stack primitives and the sum as the rules state them, the bytes of each encoding, and each form's
operation with the end of its instruction. -/

open Sys2Proof.Claims

namespace Sys2Proof.Machine

/-- A read does not look at SP. -/
theorem memRead_setSp (s : State) (a x : Word) :
    memRead { s with sp := x } a = ((memRead s a).1, { (memRead s a).2 with sp := x }) := by
  unfold memRead
  split
  · rfl
  · rfl
  · cases he : s.ext <;> simp [extRead, he]

/-- `Push16(v)` writes at old SP minus 1 and old SP minus 2 (R132). -/
theorem push16_eq_pushed (s : State) (v : Word) : push16 s v = pushed s v := by
  have hsp : s.sp - 1#16 - 1#16 = s.sp - 2#16 := by bv_omega
  rw [push16_eq, hsp, pushed]

/-- `Pop16()` reads at SP and SP plus 1 and leaves SP 2 higher (R133). -/
theorem pop16_eq_popped (s : State) : pop16 s = (popValue s, popped s) := by
  have hsp : s.sp + 1#16 + 1#16 = s.sp + 2#16 := by bv_omega
  simp only [pop16, pop8, memRead_setSp, hsp, popValue, popped, popHigh, popLow]

/-- The model's flag write is the rule's. -/
theorem setFlags_eq_flags (s : State) (z n h c : Bool) : s.setFlags z n h c = flags s z n h c := by
  rw [State.setFlags, State.setF, packF_masked, packF_eq_flagByte, flags]

/-- `addsp(b)` on numbers: the wrapping sum with the sign-extended byte, and both carries out of the unsigned sum of
the low byte of SP and the raw operand byte (R201). -/
theorem addSp_eq (sp : Word) (b : Byte) :
    addSp sp b =
      { r := BitVec.ofNat 16 (sp.toNat + sextNat b)
        h := decide (sp.toNat % 16 + b.toNat % 16 > 0xF)
        c := decide (sp.toNat % 256 + b.toNat > 0xFF) } := by
  have hsum : sp + sext16 b = BitVec.ofNat 16 (sp.toNat + sextNat b) := by
    rw [BitVec.add_def, toNat_sext16, sextNat]
  have hnibble : sp.toNat % 256 % 16 = sp.toNat % 16 := Nat.mod_mod_of_dvd _ (by decide)
  simp only [addSp, nibble, toNat_lo8, hsum, hnibble]

/-- `00pp0001` and the operand's two bytes (R134). -/
theorem encodedAs_ldN16 (p : R16) (n : Word) : EncodedAs (Sel.ldN16 n p) [op (0x01 + 16 * p.code), lo8 n, hi8 n] := by
  have hread : Sel.ldN16 (pair16 (hi8 n) (lo8 n)) p = Sel.ldN16 n p := by rw [pair16_hi8_lo8]
  cases p <;> exact encodedAs_of_decodeBytes rfl rfl fun _ => hread

/-- `0x08` and the address's two bytes (R135). -/
theorem encodedAs_ldMemA16SP (a : Word) : EncodedAs (.ldMemA16SP a) [0x08#8, lo8 a, hi8 a] :=
  encodedAs_of_decodeBytes rfl rfl fun _ => congrArg Instr.ldMemA16SP (pair16_hi8_lo8 a)

/-- `11pp0101` (R138). -/
theorem encodedAs_push (p : R16Stk) : EncodedAs (Sel.push p) [op (0xC5 + 16 * p.code)] := by
  cases p <;> exact encodedAs_of_decodeBytes rfl rfl fun _ => rfl

/-- `11pp0001` (R139, R140). -/
theorem encodedAs_pop (p : R16Stk) : EncodedAs (Sel.pop p) [op (0xC1 + 16 * p.code)] := by
  cases p <;> exact encodedAs_of_decodeBytes rfl rfl fun _ => rfl

/-- `LD HL,SP+e8` with its sum and flags as numbers (R137). -/
theorem ldHLFromSP_eq (e : Byte) (s : State) :
    ldHLFromSP e s =
      (flags (s.setR16 .hl (BitVec.ofNat 16 (s.sp.toNat + sextNat e))) false false
        (decide (s.sp.toNat % 16 + e.toNat % 16 > 0xF)) (decide (s.sp.toNat % 256 + e.toNat > 0xFF))).finish 2 3 := by
  simp only [ldHLFromSP, addSp_eq, setFlags_eq_flags]

/-- `ADD SP,e8` with its sum and flags as numbers (R205). -/
theorem addSPOffset_eq (e : Byte) (s : State) :
    addSPOffset e s =
      (flags { s with sp := BitVec.ofNat 16 (s.sp.toNat + sextNat e) } false false
        (decide (s.sp.toNat % 16 + e.toNat % 16 > 0xF)) (decide (s.sp.toNat % 256 + e.toNat > 0xFF))).finish 2 4 := by
  simp only [addSPOffset, addSp_eq, setFlags_eq_flags, State.setR16]

/-- `PUSH` by what `Push16` does (R138). -/
theorem pushPair_eq (p : R16Stk) (s : State) : pushPair p s = (pushed s (s.getStk p)).finish 1 4 := by
  rw [pushPair, push16_eq_pushed]

/-- `POP` by what `Pop16` does (R139, R140). -/
theorem popPair_eq (p : R16Stk) (s : State) : popPair p s = ((popped s).setStk p (popValue s)).finish 1 3 := by
  rw [popPair, pop16_eq_popped]

/-- `POP AF` loads A with the high byte and F with the masked low byte (R139). -/
theorem setStk_af_popValue (s : State) :
    (popped s).setStk .af (popValue s) = { popped s with a := (popHigh s).1, f := (popLow s).1 &&& 0xF0#8 } := by
  obtain ⟨-, -, -, hAF⟩ := setStk_pair16 (popped s) (popHigh s).1 (popLow s).1
  exact hAF

/-- Settles O33: both forms end in the flags and the sum that `addSp_eq` gives. -/
theorem signedOffsetsTakeTheirFlagsFromTheLowByte : Obligations.SignedOffsetsTakeTheirFlagsFromTheLowByte := fun e s =>
  ⟨encodedAs_of_decodeBytes rfl rfl fun _ => rfl, exec_of_shape_finish (.ldHLFromSP e) (ldHLFromSP_eq e s),
    encodedAs_of_decodeBytes rfl rfl fun _ => rfl, exec_of_shape_finish (.addSPOffset e) (addSPOffset_eq e s)⟩

/-- Settles O32: each form's operation is the rule's, the store with the low byte of SP first. -/
theorem ldSetsAPairOrSPAndStoresSPLittleEndian : Obligations.LdSetsAPairOrSPAndStoresSPLittleEndian :=
  ⟨fun p n _ => ⟨encodedAs_ldN16 p n, exec_of_shape_finish (.ldR16N16 p n) rfl⟩,
    fun _ => ⟨encodedAs_of_decodeBytes rfl rfl fun _ => rfl, exec_of_shape_finish .ldSPFromHL rfl⟩,
    fun a _ => ⟨encodedAs_ldMemA16SP a, exec_of_shape_finish (.ldAtA16SP a) rfl⟩⟩

/-- Settles O34: the two byte pushes write where `Push16` says (`push16_eq_pushed`). -/
theorem pushStoresTheHighByteFirst : Obligations.PushStoresTheHighByteFirst := fun p s =>
  ⟨encodedAs_push p, exec_of_shape_finish (.pushPair p) (pushPair_eq p s)⟩

/-- `POP` of every pair, AF among them, with its two reads as `Pop16` orders them (R139, R140). -/
theorem exec_pop (p : R16Stk) (s : State) :
    exec (Sel.pop p) s = .next (ends ((popped s).setStk p (popValue s)) 1 3) :=
  exec_of_shape_finish (.popPair p) (popPair_eq p s)

/-- Settles O35: the two byte pops read where `Pop16` says (`pop16_eq_popped`), and a write of AF masks its low byte. -/
theorem popReadsTheLowByteFirst : Obligations.PopReadsTheLowByteFirst := by
  refine ⟨fun p s _ => ⟨encodedAs_pop p, exec_pop p s⟩, fun s => ⟨encodedAs_pop .af, ?_⟩⟩
  rw [← setStk_af_popValue]
  exact exec_pop .af s

end Sys2Proof.Machine
end

section
/-! 8-bit arithmetic and logic (spec/42_alu8.md R150 to R191): the result and the flags of each operation as numbers, the
bytes of each encoding, and each form's operation with the end of its instruction. -/

open Sys2Proof.Claims

namespace Sys2Proof.Machine

/-! The accumulator operations (R155, R160 to R183). -/

/-- `10yyyzzz` (R155, R79). -/
theorem encodedAs_alu_reg (f : AluOp) (r : R8) : EncodedAs (Sel.alu f (.reg r)) [op (0x80 + 8 * f.code + r.code)] := by
  cases f <;> cases r <;> exact encodedAs_of_decodeBytes rfl rfl fun _ => rfl

/-- `10yyy110` (R155, R79). -/
theorem encodedAs_alu_atHL (f : AluOp) : EncodedAs (Sel.alu f .atHL) [op (0x86 + 8 * f.code)] := by
  cases f <;> exact encodedAs_of_decodeBytes rfl rfl fun _ => rfl

/-- `11yyy110` and the operand byte (R155, R79). -/
theorem encodedAs_aluN8 (n : Byte) (f : AluOp) : EncodedAs (Sel.aluN8 n f) [op (0xC6 + 8 * f.code), n] := by
  cases f <;> exact encodedAs_of_decodeBytes rfl rfl fun _ => rfl

/-- The three operand forms of an accumulator operation differ in the operand byte, the length and the cycles only: what
the operation does with a byte, each form does with its own (R155). -/
theorem alu_operandForms {f : AluOp} {after : State → Byte → State} (h : ∀ s v, aluInto f v s = after s v) (r : R8)
    (n : Byte) (s : State) :
    EncodedAs (Sel.alu f (.reg r)) [op (0x80 + 8 * f.code + r.code)] ∧
    exec (Sel.alu f (.reg r)) s = .next (ends (after s (s.getR8 r)) 1 1) ∧
    EncodedAs (Sel.alu f .atHL) [op (0x86 + 8 * f.code)] ∧
    exec (Sel.alu f .atHL) s = .next (ends (after (memRead s s.hl).2 (memRead s s.hl).1) 1 2) ∧
    EncodedAs (Sel.aluN8 n f) [op (0xC6 + 8 * f.code), n] ∧
    exec (Sel.aluN8 n f) s = .next (ends (after s n) 2 2) := by
  simp only [← h]
  exact ⟨encodedAs_alu_reg f r, exec_of_shape_finish (.aluReg f r) rfl,
    encodedAs_alu_atHL f, exec_of_shape_finish (.aluAtHL f) rfl,
    encodedAs_aluN8 n f, exec_of_shape_finish (.aluN8 f n) rfl⟩

/-- Every accumulator operation but `CP` writes its function's result to A and the function's four flags (R155). -/
theorem aluInto_of_alu8 {f : AluOp} (hf : f ≠ .cp) {s : State} {v : Byte} {o : AluOut}
    (ho : alu8 f s.a v s.flagC = o) : aluInto f v s = flags { s with a := o.r } o.z o.n o.h o.c := by
  simp only [aluInto, ho, if_neg hf, setFlags_eq_flags, State.setR8]

/-- A byte is zero when its number is. -/
theorem beq_zero_eq_decide_toNat (b : Byte) : (b == 0#8) = decide (b.toNat = 0) := by
  rw [beq_eq_decide, decide_eq_decide]
  exact BitVec.toNat_inj.symm

/-- `and8` with its Z on the result as a number (R152). -/
theorem and8_eq (a b : Byte) :
    and8 a b = { r := a &&& b, z := decide ((a &&& b).toNat = 0), n := false, h := true, c := false } := by
  rw [and8, beq_zero_eq_decide_toNat]

/-- `xor8` with its Z on the result as a number (R153). -/
theorem xor8_eq (a b : Byte) :
    xor8 a b = { r := a ^^^ b, z := decide ((a ^^^ b).toNat = 0), n := false, h := false, c := false } := by
  rw [xor8, beq_zero_eq_decide_toNat]

/-- `or8` with its Z on the result as a number (R154). -/
theorem or8_eq (a b : Byte) :
    or8 a b = { r := a ||| b, z := decide ((a ||| b).toNat = 0), n := false, h := false, c := false } := by
  rw [or8, beq_zero_eq_decide_toNat]

/-- The difference of two bytes is 0 modulo 256 exactly when they are equal (R181). -/
theorem sub8_z (a b : Byte) : (sub8 a b false).z = decide (a = b) := by
  rw [sub8_eq, decide_eq_decide, Bool.toNat_false]
  bv_omega

/-- `CP` writes the flags of the subtraction and leaves A (R181). -/
theorem aluInto_cp (v : Byte) (s : State) :
    aluInto .cp v s =
      flags s (decide (s.a = v)) true (decide (s.a.toNat % 16 < v.toNat % 16)) (decide (s.a.toNat < v.toNat)) := by
  rw [← sub8_z, ← setFlags_eq_flags]
  rfl

/-- Settles O37: both operations write the untruncated sum of `add8_eq`, `ADC` with C carried in. -/
theorem addAndAdcGiveTheSumAndItsFlags : Obligations.AddAndAdcGiveTheSumAndItsFlags := by
  rintro f r n s (rfl | rfl)
  · exact alu_operandForms (f := .add) (fun s v => aluInto_of_alu8 (by decide) (add8_eq s.a v false)) r n s
  · exact alu_operandForms (f := .adc) (fun s v => aluInto_of_alu8 (by decide) (add8_eq s.a v s.flagC)) r n s

/-- Settles O38: both operations write the difference of `sub8_eq`, `SBC` with C borrowed. -/
theorem subAndSbcGiveTheDifferenceAndItsFlags : Obligations.SubAndSbcGiveTheDifferenceAndItsFlags := by
  rintro f r n s (rfl | rfl)
  · exact alu_operandForms (f := .sub) (fun s v => aluInto_of_alu8 (by decide) (sub8_eq s.a v false)) r n s
  · exact alu_operandForms (f := .sbc) (fun s v => aluInto_of_alu8 (by decide) (sub8_eq s.a v s.flagC)) r n s

/-- Settles O40: the three forms of the operation that writes flags only (`aluInto_cp`). -/
theorem compareWritesTheFlagsOfTheSubtractionOnly : Obligations.CompareWritesTheFlagsOfTheSubtractionOnly :=
  fun r n s => alu_operandForms (fun s v => aluInto_cp v s) r n s

/-- Settles O39: the three functions' result and flags, with H set by `and8` alone. -/
theorem logicOperationsGiveTheirResultAndFlags : Obligations.LogicOperationsGiveTheirResultAndFlags := by
  rintro f r n s (rfl | rfl | rfl)
  · exact alu_operandForms (f := .and) (fun s v => aluInto_of_alu8 (by decide) (and8_eq s.a v)) r n s
  · exact alu_operandForms (f := .xor) (fun s v => aluInto_of_alu8 (by decide) (xor8_eq s.a v)) r n s
  · exact alu_operandForms (f := .or) (fun s v => aluInto_of_alu8 (by decide) (or8_eq s.a v)) r n s

/-! `INC` and `DEC` of a byte (R184 to R187). -/

/-- `00rrr100` (R184). -/
theorem encodedAs_inc8_reg (r : R8) : EncodedAs (Sel.inc8 (.reg r)) [op (0x04 + 8 * r.code)] := by
  cases r <;> exact encodedAs_of_decodeBytes rfl rfl fun _ => rfl

/-- `00rrr101` (R186). -/
theorem encodedAs_dec8_reg (r : R8) : EncodedAs (Sel.dec8 (.reg r)) [op (0x05 + 8 * r.code)] := by
  cases r <;> exact encodedAs_of_decodeBytes rfl rfl fun _ => rfl

/-- Adding 1 wraps at 0xFF and carries out of a full low nibble (R184). -/
theorem add8_one (a : Byte) :
    add8 a 1#8 false =
      { r := BitVec.ofNat 8 (a.toNat + 1), z := decide (a.toNat = 0xFF), n := false,
        h := decide (a.toNat % 16 = 0xF), c := decide (a.toNat = 0xFF) } := by
  have ha := a.isLt
  simp only [add8_eq, BitVec.toNat_ofNat, Bool.toNat_false, AluOut.mk.injEq, decide_eq_decide, true_and]
  omega

/-- Subtracting 1 wraps at 0x00 and borrows from an empty low nibble (R186). -/
theorem sub8_one (a : Byte) :
    sub8 a 1#8 false =
      { r := BitVec.ofNat 8 (a.toNat + 255), z := decide (a.toNat = 1), n := true,
        h := decide (a.toNat % 16 = 0), c := decide (a.toNat = 0) } := by
  have ha := a.isLt
  have hr : BitVec.ofNat 8 (a.toNat + 512 - 1) = BitVec.ofNat 8 (a.toNat + 255) := by bv_omega
  simp only [sub8_eq, BitVec.toNat_ofNat, Bool.toNat_false, AluOut.mk.injEq, decide_eq_decide, true_and]
  refine ⟨hr, ?_⟩
  omega

/-- `INC r8` with its result and flags as numbers (R184). -/
theorem incReg_eq (r : R8) (s : State) :
    incReg r s =
      (flags (s.setR8 r (BitVec.ofNat 8 ((s.getR8 r).toNat + 1))) (decide ((s.getR8 r).toNat = 0xFF)) false
        (decide ((s.getR8 r).toNat % 16 = 0xF)) s.flagC).finish 1 1 := by
  simp only [incReg, add8_one, setFlags_eq_flags]

/-- `DEC r8` with its result and flags as numbers (R186). -/
theorem decReg_eq (r : R8) (s : State) :
    decReg r s =
      (flags (s.setR8 r (BitVec.ofNat 8 ((s.getR8 r).toNat + 255))) (decide ((s.getR8 r).toNat = 1)) true
        (decide ((s.getR8 r).toNat % 16 = 0)) s.flagC).finish 1 1 := by
  simp only [decReg, sub8_one, setFlags_eq_flags]

/-- `INC (HL)` with its result and flags as numbers (R185). -/
theorem incAtHL_eq (s : State) :
    incAtHL s =
      (flags (memWrite (memRead s s.hl).2 s.hl (BitVec.ofNat 8 ((memRead s s.hl).1.toNat + 1)))
        (decide ((memRead s s.hl).1.toNat = 0xFF)) false (decide ((memRead s s.hl).1.toNat % 16 = 0xF))
        s.flagC).finish 1 3 := by
  simp only [incAtHL, add8_one, setFlags_eq_flags]

/-- `DEC (HL)` with its result and flags as numbers (R187). -/
theorem decAtHL_eq (s : State) :
    decAtHL s =
      (flags (memWrite (memRead s s.hl).2 s.hl (BitVec.ofNat 8 ((memRead s s.hl).1.toNat + 255)))
        (decide ((memRead s s.hl).1.toNat = 1)) true (decide ((memRead s s.hl).1.toNat % 16 = 0))
        s.flagC).finish 1 3 := by
  simp only [decAtHL, sub8_one, setFlags_eq_flags]

/-- Settles O41: `add8` and `sub8` with the operand 1, and the C of the starting state written back. -/
theorem incAndDecOfAByteKeepC : Obligations.IncAndDecOfAByteKeepC :=
  ⟨fun r s => ⟨encodedAs_inc8_reg r, exec_of_shape_finish (.incReg r) (incReg_eq r s),
      encodedAs_dec8_reg r, exec_of_shape_finish (.decReg r) (decReg_eq r s)⟩,
    fun s => ⟨encodedAs_of_decodeBytes rfl rfl fun _ => rfl, exec_of_shape_finish .incAtHL (incAtHL_eq s),
      encodedAs_of_decodeBytes rfl rfl fun _ => rfl, exec_of_shape_finish .decAtHL (decAtHL_eq s)⟩⟩

/-! `DAA` (R188). -/

/-- The adjustment as a number: 0x06 for the low digit, 0x60 for the high one (R188). -/
def daaAdjustment (low high : Bool) : Nat := (if low then 0x06 else 0) + (if high then 0x60 else 0)

/-- The two corrections have no bit in common, so that joining them adds them. -/
theorem corrections_eq_daaAdjustment (low high : Bool) :
    (if low then 0x06#8 else 0x00#8) ||| (if high then 0x60#8 else 0x00#8) =
      BitVec.ofNat 8 (daaAdjustment low high) := by
  cases low <;> cases high <;> rfl

theorem daaAdjustment_le (low high : Bool) : daaAdjustment low high ≤ 0x66 := by
  cases low <;> cases high <;> decide

/-- After an addition A is adjusted upwards, by the flags or by its own digits (R188). -/
theorem daa8_after_addition (a : Byte) (h c : Bool) :
    daa8 a false h c =
      (BitVec.ofNat 8 (a.toNat + daaAdjustment (h || decide (a.toNat % 16 > 9)) (c || decide (a.toNat > 0x99))),
        c || decide (a.toNat > 0x99)) := by
  simp only [daa8, corrections_eq_daaAdjustment, BitVec.ofNat_add, BitVec.ofNat_toNat, BitVec.setWidth_eq]
  rfl

/-- After a subtraction A is adjusted downwards, by the flags alone, and the carry stays (R188). -/
theorem daa8_after_subtraction (a : Byte) (h c : Bool) :
    daa8 a true h c = (BitVec.ofNat 8 (a.toNat + 256 - daaAdjustment h c), c) := by
  have hle := daaAdjustment_le h c
  have hsub : a - BitVec.ofNat 8 (daaAdjustment h c) = BitVec.ofNat 8 (a.toNat + 256 - daaAdjustment h c) := by
    bv_omega
  simp only [daa8, if_true, corrections_eq_daaAdjustment, hsub]

/-- Settles O42: the two branches of N. -/
theorem daaAdjustsAfterAdditionAndSubtraction : Obligations.DaaAdjustsAfterAdditionAndSubtraction := by
  refine fun s => ⟨encodedAs_of_decodeBytes rfl rfl fun _ => rfl, exec_of_shape_finish .daa ?_⟩
  cases hN : s.flagN
  · simp only [daaA, hN, daa8_after_addition, beq_zero_eq_decide_toNat, setFlags_eq_flags]
    rfl
  · simp only [daaA, hN, daa8_after_subtraction, beq_zero_eq_decide_toNat, setFlags_eq_flags]
    rfl

/-! `CPL`, `SCF` and `CCF` (R189 to R191). -/

/-- Flipping every bit of A is the exclusive or with 0xFF (R189). -/
theorem cplA_eq (s : State) :
    cplA s = (flags { s with a := s.a ^^^ 0xFF#8 } s.flagZ true true s.flagC).finish 1 1 := by
  have hnot : ~~~s.a = s.a ^^^ 0xFF#8 := BitVec.xor_allOnes.symm
  rw [cplA, hnot, setFlags_eq_flags]
  rfl

/-- `SCF` keeps Z (R190). -/
theorem setCarry_eq (s : State) : setCarry s = (flags s s.flagZ false false true).finish 1 1 := by
  rw [setCarry, setFlags_eq_flags]

/-- `CCF` keeps Z (R191). -/
theorem complementCarry_eq (s : State) :
    complementCarry s = (flags s s.flagZ false false (decide (s.flagC = false))).finish 1 1 := by
  rw [complementCarry, setFlags_eq_flags, Bool.decide_eq_false]

/-- Settles O43: each operation writes its flags and reads the kept ones from the starting state. -/
theorem cplScfCcfWriteWhatTheirRulesName : Obligations.CplScfCcfWriteWhatTheirRulesName := fun s =>
  ⟨encodedAs_of_decodeBytes rfl rfl fun _ => rfl, exec_of_shape_finish .cpl (cplA_eq s),
    encodedAs_of_decodeBytes rfl rfl fun _ => rfl, exec_of_shape_finish .scf (setCarry_eq s),
    encodedAs_of_decodeBytes rfl rfl fun _ => rfl, exec_of_shape_finish .ccf (complementCarry_eq s)⟩

end Sys2Proof.Machine
end

section
/-! 16-bit arithmetic (spec/43_alu16.md R200 to R204): the sum, the increment and the decrement of a pair as numbers, the
bytes of each encoding, and each form's operation with the end of its instruction. -/

open Sys2Proof.Claims

namespace Sys2Proof.Machine

/-- `00pp1001` (R202). -/
theorem encodedAs_addHL (p : R16) : EncodedAs (Sel.addHL p) [op (0x09 + 16 * p.code)] := by
  cases p <;> exact encodedAs_of_decodeBytes rfl rfl fun _ => rfl

/-- `00pp0011` (R203). -/
theorem encodedAs_inc16 (p : R16) : EncodedAs (Sel.inc16 p) [op (0x03 + 16 * p.code)] := by
  cases p <;> exact encodedAs_of_decodeBytes rfl rfl fun _ => rfl

/-- `00pp1011` (R204). -/
theorem encodedAs_dec16 (p : R16) : EncodedAs (Sel.dec16 p) [op (0x0B + 16 * p.code)] := by
  cases p <;> exact encodedAs_of_decodeBytes rfl rfl fun _ => rfl

/-- `ADD HL,r16` with its sum and flags as numbers, Z that of the starting state (R200, R202). -/
theorem addHLPair_eq (p : R16) (s : State) :
    addHLPair p s =
      (flags (s.setR16 .hl (BitVec.ofNat 16 (s.hl.toNat + (s.getR16 p).toNat))) s.flagZ false
        (decide (s.hl.toNat % 4096 + (s.getR16 p).toNat % 4096 > 0xFFF))
        (decide (s.hl.toNat + (s.getR16 p).toNat > 0xFFFF))).finish 1 2 := by
  simp only [addHLPair, add16, setFlags_eq_flags]

/-- `INC r16` with its sum as a number, which wraps at 0xFFFF (R203). -/
theorem incPair_eq (p : R16) (s : State) :
    incPair p s = (s.setR16 p (BitVec.ofNat 16 ((s.getR16 p).toNat + 1))).finish 1 2 := by
  have hinc : s.getR16 p + 1#16 = BitVec.ofNat 16 ((s.getR16 p).toNat + 1) := BitVec.add_def ..
  rw [incPair, hinc]

/-- `DEC r16` adds 65535 modulo 65536, which wraps at 0x0000 (R204). -/
theorem decPair_eq (p : R16) (s : State) :
    decPair p s = (s.setR16 p (BitVec.ofNat 16 ((s.getR16 p).toNat + 65535))).finish 1 2 := by
  have hdec : s.getR16 p - 1#16 = BitVec.ofNat 16 ((s.getR16 p).toNat + 65535) := by bv_omega
  rw [decPair, hdec]

/-- Settles O44: the operation writes the sum and the two carries of `add16`, and reads Z from the starting state. -/
theorem addToHLTakesCarriesFromBits11And15 : Obligations.AddToHLTakesCarriesFromBits11And15 := fun p s =>
  ⟨encodedAs_addHL p, exec_of_shape_finish (.addHLPair p) (addHLPair_eq p s)⟩

/-- Settles O45: both operations write the pair alone, so that every flag stays. -/
theorem incAndDecOfAPairWrapAndWriteNoFlag : Obligations.IncAndDecOfAPairWrapAndWriteNoFlag := fun p s =>
  ⟨encodedAs_inc16 p, exec_of_shape_finish (.incPair p) (incPair_eq p s),
    encodedAs_dec16 p, exec_of_shape_finish (.decPair p) (decPair_eq p s)⟩

end Sys2Proof.Machine
end

section
/-! Rotates, shifts and bit operations (spec/44_rotate_shift_bit.md R210 to R236): the one-bit functions and the tested
bit as numbers, the bytes of each encoding, and each form's operation with the end of its instruction. -/

open Sys2Proof.Claims

namespace Sys2Proof.Machine

/-! The one-bit functions and a bit of a byte, as numbers. -/

/-- Two bit fields side by side are a number with the first above the second. -/
theorem toNat_append_eq_add {m n : Nat} (x : BitVec m) (y : BitVec n) : (x ++ y).toNat = x.toNat * 2 ^ n + y.toNat := by
  rw [BitVec.toNat_append, ← Nat.shiftLeft_add_eq_or_of_lt y.isLt, Nat.shiftLeft_eq]

/-- A bit of a byte is the parity of the byte shifted down to it. -/
theorem getLsbD_eq_decide_div (v : Byte) (i : Nat) : v.getLsbD i = decide (v.toNat / 2 ^ i % 2 = 1) := by
  rw [← BitVec.testBit_toNat, Nat.testBit_eq_decide_div_mod_eq]

/-- The complement of a bit of a byte (R231). -/
theorem not_getLsbD_eq_decide_div (v : Byte) (i : Nat) : (!v.getLsbD i) = decide (v.toNat / 2 ^ i % 2 = 0) := by
  rw [getLsbD_eq_decide_div, ← decide_not, decide_eq_decide]
  exact Nat.mod_two_ne_one

/-- The eight one-bit functions as numbers: what the model joins from bit fields of the byte and the carry, the rule's
formula adds up from the fields' values (R210). -/
theorem rotNat_eq (f : RotOp) (v : Byte) (cin : Bool) :
    rotNat f v.toNat cin = ((rot8 f v cin).r.toNat, (rot8 f v cin).cout) := by
  have hv := v.isLt
  cases f
  all_goals
    simp only [rotNat, rot8, toNat_append_eq_add, BitVec.extractLsb'_toNat, Nat.shiftRight_eq_div_pow,
      BitVec.toNat_ofBool, BitVec.toNat_ofNat, getLsbD_eq_decide_div, Prod.mk.injEq, decide_eq_decide, and_true]
    omega

/-! The encodings that begin with 0xCB (R80): the second byte alone gives the instruction. -/

theorem encodedAs_of_decodeCB {i : Instr} {b1 : Byte} (henc : encode i = [0xCB#8, b1]) (hdec : decodeCB b1 = i) :
    EncodedAs i [0xCB#8, b1] :=
  encodedAs_of_decodeBytes henc rfl fun _ => hdec

/-- `00fffzzz` (R80), the byte at HL among the operands. -/
theorem encodedAs_rot (f : RotOp) (l : Loc) : EncodedAs (Sel.rot f l) [0xCB#8, op (8 * f.code + l.code)] := by
  cases f <;> rcases l with ⟨_ | _⟩ | _ <;> exact encodedAs_of_decodeCB rfl rfl

/-- `01bbbzzz` (R80). -/
theorem encodedAs_bit (b : Fin 8) (l : Loc) : EncodedAs (Sel.bit b l) [0xCB#8, op (0x40 + 8 * b.val + l.code)] := by
  fin_cases b <;> rcases l with ⟨_ | _⟩ | _ <;> exact encodedAs_of_decodeCB rfl rfl

/-- `10bbbzzz` (R80). -/
theorem encodedAs_res (b : Fin 8) (l : Loc) : EncodedAs (Sel.res b l) [0xCB#8, op (0x80 + 8 * b.val + l.code)] := by
  fin_cases b <;> rcases l with ⟨_ | _⟩ | _ <;> exact encodedAs_of_decodeCB rfl rfl

/-- `11bbbzzz` (R80). -/
theorem encodedAs_set (b : Fin 8) (l : Loc) : EncodedAs (Sel.set b l) [0xCB#8, op (0xC0 + 8 * b.val + l.code)] := by
  fin_cases b <;> rcases l with ⟨_ | _⟩ | _ <;> exact encodedAs_of_decodeCB rfl rfl

/-- The operand code 6 of the byte at HL (R74), added to the group's base before the bit number or after it. -/
theorem op_atHL (base : Nat) (b : Fin 8) : op (base + 8 * b.val + Loc.atHL.code) = op (base + 6 + 8 * b.val) :=
  congrArg op (Nat.add_right_comm base (8 * b.val) 6)

/-! The operations. -/

/-- The rotates of A with their result and carry as numbers; Z is written as 0 (R211 to R214). -/
theorem rotA_eq (f : RotOp) (s : State) :
    rotA f s =
      (flags { s with a := BitVec.ofNat 8 (rotNat f s.a.toNat s.flagC).1 } false false false
        (rotNat f s.a.toNat s.flagC).2).finish 1 1 := by
  simp only [rotA, rotNat_eq, setFlags_eq_flags, BitVec.ofNat_toNat, BitVec.setWidth_eq, State.setR8]

/-- A rotate or shift of a register with its result and flags as numbers (R215 to R229). -/
theorem rotReg_eq (f : RotOp) (r : R8) (s : State) :
    rotReg f r s =
      (flags (s.setR8 r (BitVec.ofNat 8 (rotNat f (s.getR8 r).toNat s.flagC).1))
        (decide ((rotNat f (s.getR8 r).toNat s.flagC).1 = 0)) false false
        (rotNat f (s.getR8 r).toNat s.flagC).2).finish 2 2 := by
  simp only [rotReg, rotNat_eq, setFlags_eq_flags, BitVec.ofNat_toNat, BitVec.setWidth_eq, beq_zero_eq_decide_toNat]

/-- A rotate or shift of the byte at HL with its result and flags as numbers (R216 to R230). -/
theorem rotAtHL_eq (f : RotOp) (s : State) :
    rotAtHL f s =
      (flags (memWrite (memRead s s.hl).2 s.hl (BitVec.ofNat 8 (rotNat f (memRead s s.hl).1.toNat s.flagC).1))
        (decide ((rotNat f (memRead s s.hl).1.toNat s.flagC).1 = 0)) false false
        (rotNat f (memRead s s.hl).1.toNat s.flagC).2).finish 2 4 := by
  simp only [rotAtHL, rotNat_eq, setFlags_eq_flags, BitVec.ofNat_toNat, BitVec.setWidth_eq, beq_zero_eq_decide_toNat]

/-- `BIT b,r8` with its Z as a number (R231). -/
theorem bitReg_eq (b : Fin 8) (r : R8) (s : State) :
    bitReg b r s =
      (flags s (decide ((s.getR8 r).toNat / 2 ^ b.val % 2 = 0)) false true s.flagC).finish 2 2 := by
  rw [bitReg, setFlags_eq_flags, not_getLsbD_eq_decide_div]

/-- `BIT b,(HL)` with its Z as a number; the byte is read and not written (R232). -/
theorem bitAtHL_eq (b : Fin 8) (s : State) :
    bitAtHL b s =
      (flags (memRead s s.hl).2 (decide ((memRead s s.hl).1.toNat / 2 ^ b.val % 2 = 0)) false true
        s.flagC).finish 2 3 := by
  rw [bitAtHL, setFlags_eq_flags, not_getLsbD_eq_decide_div]

/-- `1 << b` is the byte with bit `b` alone (R233, R235). -/
theorem bitMask_eq_twoPow (b : Fin 8) : bitMask b = BitVec.twoPow 8 b.val := rfl

/-! The statements. -/

/-- Settles O46: the four operations are one form, whose result and carry are the one-bit function's (`rotA_eq`). -/
theorem accumulatorRotatesClearZ : Obligations.AccumulatorRotatesClearZ := fun s =>
  ⟨encodedAs_of_decodeBytes rfl rfl fun _ => rfl, exec_of_shape_finish .rlca (rotA_eq .rlc s),
    encodedAs_of_decodeBytes rfl rfl fun _ => rfl, exec_of_shape_finish .rrca (rotA_eq .rrc s),
    encodedAs_of_decodeBytes rfl rfl fun _ => rfl, exec_of_shape_finish .rla (rotA_eq .rl s),
    encodedAs_of_decodeBytes rfl rfl fun _ => rfl, exec_of_shape_finish .rra (rotA_eq .rr s)⟩

/-- Settles O47: the eight functions agree with their number formulas (`rotNat_eq`), on any register. -/
theorem rotatesAndShiftsOfARegister : Obligations.RotatesAndShiftsOfARegister := fun f r s =>
  ⟨encodedAs_rot f (.reg r), exec_of_shape_finish (.rotReg f r) (rotReg_eq f r s)⟩

/-- Settles O48: the same functions, between the read and the write at the HL of the starting state. -/
theorem rotatesAndShiftsOfTheByteAtHL : Obligations.RotatesAndShiftsOfTheByteAtHL := fun f s =>
  ⟨encodedAs_rot f .atHL, exec_of_shape_finish (.rotAtHL f) (rotAtHL_eq f s)⟩

/-- Settles O49: both forms write flags only, Z from the tested bit (`not_getLsbD_eq_decide_div`). -/
theorem bitTestsOneBit : Obligations.BitTestsOneBit := fun b r s =>
  ⟨encodedAs_bit b (.reg r), exec_of_shape_finish (.bitReg b r) (bitReg_eq b r s),
    op_atHL 0x40 b ▸ encodedAs_bit b .atHL, exec_of_shape_finish (.bitAtHL b) (bitAtHL_eq b s)⟩

/-- Settles O50: each form's operation is the rule's, with the mask `1 << b` (`bitMask_eq_twoPow`). -/
theorem resAndSetChangeOneBit : Obligations.ResAndSetChangeOneBit := by
  intro b r s
  rw [← bitMask_eq_twoPow]
  exact ⟨encodedAs_res b (.reg r), exec_of_shape_finish (.resReg b r) rfl,
    encodedAs_set b (.reg r), exec_of_shape_finish (.setReg b r) rfl,
    op_atHL 0x80 b ▸ encodedAs_res b .atHL, exec_of_shape_finish (.resAtHL b) rfl,
    op_atHL 0xC0 b ▸ encodedAs_set b .atHL, exec_of_shape_finish (.setAtHL b) rfl⟩

end Sys2Proof.Machine
end

section
/-! Control flow (spec/45_control_flow.md R250 to R262): the relative target as a number, the bytes of each encoding,
and each form's operation with the end of its instruction, taken and not taken. -/

open Sys2Proof.Claims

namespace Sys2Proof.Machine

/-- An instruction whose form's operation ends by writing PC (R250). -/
theorem exec_of_shape_jump {i : Instr} {e : State → State} (h : Shape i e) {s t : State} {target : Word}
    {length cycles : Nat} (he : e s = t.jump target length cycles) :
    exec i s = .next (endsAt t target length cycles) := by
  rw [exec_of_shape h, he]
  rfl

/-- An instruction whose form's operation writes PC if the condition holds and else passes the instruction's bytes: the
length is the same, the effects and the cycles differ (R250). -/
theorem exec_of_shape_cond {i : Instr} {e : State → State} (h : Shape i e) {s t : State} {cc : Cond} {target : Word}
    {length cycles cyclesNot : Nat}
    (he : e s = if s.cond cc then t.jump target length cycles else s.finish length cyclesNot) :
    (s.cond cc = true → exec i s = .next (endsAt t target length cycles)) ∧
    (s.cond cc = false → exec i s = .next (ends s length cyclesNot)) :=
  ⟨fun hcc => exec_of_shape_jump h (he.trans (if_pos hcc)),
    fun hcc => exec_of_shape_finish h (he.trans (if_neg (ne_true_of_eq_false hcc)))⟩

/-- A relative target as a number: the sign-extended offset from PC plus 2, modulo 65536 (R254). -/
theorem relTarget_eq (s : State) (e : Byte) : relTarget s e = BitVec.ofNat 16 (s.pc.toNat + 2 + sextNat e) := by
  have hsext : BitVec.ofNat 16 (sextNat e) = sext16 e := by
    rw [sextNat, ← toNat_sext16, BitVec.ofNat_toNat, BitVec.setWidth_eq]
  simp only [relTarget, BitVec.ofNat_add, BitVec.ofNat_toNat, BitVec.setWidth_eq, hsext]

/-! The encodings. -/

/-- `0xC3` and the address's two bytes (R251). -/
theorem encodedAs_jpA16 (a : Word) : EncodedAs (.jpA16 a) [0xC3#8, lo8 a, hi8 a] :=
  encodedAs_of_decodeBytes rfl rfl fun _ => congrArg Instr.jpA16 (pair16_hi8_lo8 a)

/-- `110cc010` and the address's two bytes (R252). -/
theorem encodedAs_jpCc (cc : Cond) (a : Word) : EncodedAs (Sel.jpCc a cc) [op (0xC2 + 8 * cc.code), lo8 a, hi8 a] := by
  have hread : Sel.jpCc (pair16 (hi8 a) (lo8 a)) cc = Sel.jpCc a cc := by rw [pair16_hi8_lo8]
  cases cc <;> exact encodedAs_of_decodeBytes rfl rfl fun _ => hread

/-- `001cc000` and the offset byte (R255). -/
theorem encodedAs_jrCc (cc : Cond) (e : Byte) : EncodedAs (Sel.jrCc e cc) [op (0x20 + 8 * cc.code), e] := by
  cases cc <;> exact encodedAs_of_decodeBytes rfl rfl fun _ => rfl

/-- `0xCD` and the address's two bytes (R256). -/
theorem encodedAs_callA16 (a : Word) : EncodedAs (.callA16 a) [0xCD#8, lo8 a, hi8 a] :=
  encodedAs_of_decodeBytes rfl rfl fun _ => congrArg Instr.callA16 (pair16_hi8_lo8 a)

/-- `110cc100` and the address's two bytes (R257). -/
theorem encodedAs_callCc (cc : Cond) (a : Word) :
    EncodedAs (Sel.callCc a cc) [op (0xC4 + 8 * cc.code), lo8 a, hi8 a] := by
  have hread : Sel.callCc (pair16 (hi8 a) (lo8 a)) cc = Sel.callCc a cc := by rw [pair16_hi8_lo8]
  cases cc <;> exact encodedAs_of_decodeBytes rfl rfl fun _ => hread

/-- `110cc000` (R259). -/
theorem encodedAs_retCc (cc : Cond) : EncodedAs (Sel.retCc cc) [op (0xC0 + 8 * cc.code)] := by
  cases cc <;> exact encodedAs_of_decodeBytes rfl rfl fun _ => rfl

/-- `11ttt111` (R262). -/
theorem encodedAs_rst (t : Fin 8) : EncodedAs (Sel.rst t) [op (0xC7 + 8 * t.val)] := by
  fin_cases t <;> exact encodedAs_of_decodeBytes rfl rfl fun _ => rfl

/-! The operations. -/

/-- `JR e8` with its target as a number (R254). -/
theorem jumpRel_eq (e : Byte) (s : State) :
    jumpRel e s = s.jump (BitVec.ofNat 16 (s.pc.toNat + 2 + sextNat e)) 2 3 := by
  rw [jumpRel, relTarget_eq]

/-- `JR cc,e8` with its target as a number (R255). -/
theorem jumpRelIf_eq (cc : Cond) (e : Byte) (s : State) :
    jumpRelIf cc e s =
      if s.cond cc then s.jump (BitVec.ofNat 16 (s.pc.toNat + 2 + sextNat e)) 2 3 else s.finish 2 2 := by
  rw [jumpRelIf, relTarget_eq]

/-- `CALL a16` by what `Push16` does (R256). -/
theorem callAbs_eq (a : Word) (s : State) : callAbs a s = (pushed s (s.pc + 3#16)).jump a 3 6 := by
  rw [callAbs, push16_eq_pushed]

/-- `CALL cc,a16` by what `Push16` does (R257). -/
theorem callAbsIf_eq (cc : Cond) (a : Word) (s : State) :
    callAbsIf cc a s = if s.cond cc then (pushed s (s.pc + 3#16)).jump a 3 6 else s.finish 3 3 := by
  rw [callAbsIf, push16_eq_pushed]

/-- `RST` by what `Push16` does (R262). -/
theorem rstCall_eq (t : Fin 8) (s : State) :
    rstCall t s = (pushed s (s.pc + 1#16)).jump (BitVec.ofNat 16 (8 * t.val)) 1 4 := by
  rw [rstCall, push16_eq_pushed, rstTarget]

/-- `RET` by what `Pop16` does (R258). -/
theorem retPop_eq (s : State) : retPop s = (popped s).jump (popValue s) 1 4 := by
  rw [retPop, pop16_eq_popped]

/-- `RET cc` by what `Pop16` does (R259). -/
theorem retPopIf_eq (cc : Cond) (s : State) :
    retPopIf cc s = if s.cond cc then (popped s).jump (popValue s) 1 5 else s.finish 1 2 := by
  rw [retPopIf, pop16_eq_popped]

/-! The statements. -/

/-- Settles O51: each form's operation writes PC as the rule says, the relative target by `relTarget_eq`. -/
theorem jumpsGoToTheirTarget : Obligations.JumpsGoToTheirTarget := fun a e s =>
  ⟨encodedAs_jpA16 a, exec_of_shape_jump (.jumpAbs a) rfl,
    encodedAs_of_decodeBytes rfl rfl fun _ => rfl, exec_of_shape_jump .jumpHL rfl,
    encodedAs_of_decodeBytes rfl rfl fun _ => rfl, exec_of_shape_jump (.jumpRel e) (jumpRel_eq e s)⟩

/-- Settles O52: the flag each condition code names is the one `cond(cc)` reads (R77), and both forms branch on it. -/
theorem conditionalJumpsFollowTheirFlag : Obligations.ConditionalJumpsFollowTheirFlag := by
  intro cc a e s taken
  have htaken : taken ↔ s.cond cc = true := by
    cases cc with
    | nz => exact (iff_of_eq (Bool.not_eq_true' s.flagZ)).symm
    | z => exact Iff.rfl
    | nc => exact (iff_of_eq (Bool.not_eq_true' s.flagC)).symm
    | c => exact Iff.rfl
  obtain ⟨hjp, hjpNot⟩ := exec_of_shape_cond (.jumpAbsIf cc a) (s := s) rfl
  obtain ⟨hjr, hjrNot⟩ := exec_of_shape_cond (.jumpRelIf cc e) (jumpRelIf_eq cc e s)
  rw [htaken, Bool.not_eq_true]
  exact ⟨encodedAs_jpCc cc a, hjp, hjpNot, encodedAs_jrCc cc e, hjr, hjrNot⟩

/-- Settles O53: the two byte pushes write where `Push16` says (`push16_eq_pushed`), and a call not taken only passes
its own bytes. -/
theorem callsPushTheReturnAddress : Obligations.CallsPushTheReturnAddress :=
  ⟨fun a s => ⟨encodedAs_callA16 a, exec_of_shape_jump (.callAbs a) (callAbs_eq a s)⟩,
    fun cc a s => ⟨encodedAs_callCc cc a, exec_of_shape_cond (.callAbsIf cc a) (callAbsIf_eq cc a s)⟩,
    fun t s => ⟨encodedAs_rst t, exec_of_shape_jump (.rstCall t) (rstCall_eq t s)⟩⟩

/-- Settles O54: the two byte pops read where `Pop16` says (`pop16_eq_popped`), and a return not taken only passes its
own byte. -/
theorem returnsPopThePC : Obligations.ReturnsPopThePC :=
  ⟨fun s => ⟨encodedAs_of_decodeBytes rfl rfl fun _ => rfl, exec_of_shape_jump .retPop (retPop_eq s)⟩,
    fun cc s => ⟨encodedAs_retCc cc, exec_of_shape_cond (.retPopIf cc) (retPopIf_eq cc s)⟩⟩

end Sys2Proof.Machine
end

section
/-! Encoding and decoding both ways (spec/30_encoding.md R70, R79 to R81): every instruction is read back from its
encoding, and what the decoder reads is encoded as the bytes it consumed. -/

open Sys2Proof.Claims

namespace Sys2Proof.Machine

/-! Decode of encode. -/

/-- An illegal row is its one byte (R81, R90). -/
theorem encodedAs_illegal {i : Instr} {b : Byte} (h : i.illegalByte = some b) : EncodedAs i [b] := by
  unfold Instr.illegalByte at h
  split at h <;> cases h
  all_goals exact encodedAs_of_decodeBytes rfl rfl fun _ => rfl

theorem illegalByte_of_not_wellFormed {i : Instr} (h : i.wellFormed = false) : ∃ b, i.illegalByte = some b :=
  Option.isSome_iff_exists.mp (by simpa [Instr.wellFormed] using h)

/-- The byte of an illegal row is one of the eleven of R81. -/
theorem illegalByte_mem {i : Instr} {b : Byte} (h : i.illegalByte = some b) :
    b ∈ [0xD3#8, 0xDB#8, 0xDD#8, 0xE3#8, 0xE4#8, 0xEB#8, 0xEC#8, 0xED#8, 0xF4#8, 0xFC#8, 0xFD#8] := by
  unfold Instr.illegalByte at h
  split at h <;> cases h
  all_goals decide

/-- Every form has its bytes in the two maps of R79 and R80. -/
theorem encodedAs_of_shape {i : Instr} {e : State → State} (he : Shape i e) : ∃ bytes, EncodedAs i bytes := by
  cases he with
  | ldRegReg r r' => exact ⟨_, encodedAs_ld_reg_reg r r'⟩
  | ldRegN8 r n => exact ⟨_, encodedAs_ldN8_reg n r⟩
  | ldRegAtHL r => exact ⟨_, encodedAs_ld_reg_atHL r⟩
  | ldAtHLReg r => exact ⟨_, encodedAs_ld_atHL_reg r⟩
  | ldAMemA16 a => exact ⟨_, encodedAs_ldAMemA16 a⟩
  | ldMemA16A a => exact ⟨_, encodedAs_ldMemA16A a⟩
  | ldR16N16 p n => exact ⟨_, encodedAs_ldN16 p n⟩
  | ldAtA16SP a => exact ⟨_, encodedAs_ldMemA16SP a⟩
  | pushPair p => exact ⟨_, encodedAs_push p⟩
  | popPair p => exact ⟨_, encodedAs_pop p⟩
  | aluReg f r => exact ⟨_, encodedAs_alu_reg f r⟩
  | aluAtHL f => exact ⟨_, encodedAs_alu_atHL f⟩
  | aluN8 f n => exact ⟨_, encodedAs_aluN8 n f⟩
  | incReg r => exact ⟨_, encodedAs_inc8_reg r⟩
  | decReg r => exact ⟨_, encodedAs_dec8_reg r⟩
  | addHLPair p => exact ⟨_, encodedAs_addHL p⟩
  | incPair p => exact ⟨_, encodedAs_inc16 p⟩
  | decPair p => exact ⟨_, encodedAs_dec16 p⟩
  | rotReg f r => exact ⟨_, encodedAs_rot f (.reg r)⟩
  | rotAtHL f => exact ⟨_, encodedAs_rot f .atHL⟩
  | bitReg b r => exact ⟨_, encodedAs_bit b (.reg r)⟩
  | bitAtHL b => exact ⟨_, encodedAs_bit b .atHL⟩
  | resReg b r => exact ⟨_, encodedAs_res b (.reg r)⟩
  | resAtHL b => exact ⟨_, encodedAs_res b .atHL⟩
  | setReg b r => exact ⟨_, encodedAs_set b (.reg r)⟩
  | setAtHL b => exact ⟨_, encodedAs_set b .atHL⟩
  | jumpAbs a => exact ⟨_, encodedAs_jpA16 a⟩
  | jumpAbsIf cc a => exact ⟨_, encodedAs_jpCc cc a⟩
  | jumpRelIf cc n => exact ⟨_, encodedAs_jrCc cc n⟩
  | callAbs a => exact ⟨_, encodedAs_callA16 a⟩
  | callAbsIf cc a => exact ⟨_, encodedAs_callCc cc a⟩
  | retPopIf cc => exact ⟨_, encodedAs_retCc cc⟩
  | rstCall t => exact ⟨_, encodedAs_rst t⟩
  | illegal i b hb => exact ⟨_, encodedAs_illegal hb⟩
  | _ => exact ⟨_, encodedAs_of_decodeBytes rfl rfl fun _ => rfl⟩

/-- Settles O2: every instruction has a form, and every form's bytes are read back (`encodedAs_of_shape`). -/
theorem decodeOfEncodeIsTheInstruction : Obligations.DecodeOfEncodeIsTheInstruction := by
  intro i rest
  obtain ⟨e, he⟩ := shape_of i
  obtain ⟨bytes, henc, hdec⟩ := encodedAs_of_shape he
  rw [henc, hdec]

/-! Encode of decode. -/

/-- Every instruction has one, two or three bytes (R70). -/
theorem formatLength_cases (b0 : Byte) : formatLength b0 = 1 ∨ formatLength b0 = 2 ∨ formatLength b0 = 3 := by
  have := formatLength_bounds b0
  omega

/-- The bytes of a row of the primary map: byte 0 and the operand its format has, a byte or a little-endian word
(R70). -/
def rowBytes (b0 n8 : Byte) (n16 : Word) : List Byte :=
  match formatLength b0 with
  | 2 => [b0, n8]
  | 3 => [b0, lo8 n16, hi8 n16]
  | _ => [b0]

/-- The bytes of a row read from three bytes are as many of them as the format has. -/
theorem rowBytes_eq_take (b0 b1 b2 : Byte) :
    rowBytes b0 b1 (pair16 b2 b1) = [b0, b1, b2].take (formatLength b0) := by
  rcases formatLength_cases b0 with h | h | h <;> simp [rowBytes, h]

/-- A byte from its fields `x`, `y` and `z` (R79). -/
theorem eq_op_of_fields {b : Byte} {x y z : Nat} (hx : b.toNat / 64 = x) (hy : b.toNat / 8 % 8 = y)
    (hz : b.toNat % 8 = z) : b = op (64 * x + 8 * y + z) := by
  have hsum : b.toNat = 64 * x + 8 * y + z := by omega
  rw [op, ← hsum, BitVec.ofNat_toNat, BitVec.setWidth_eq]

/-- A row of the primary map is encoded as it is read, at every value of the fields `x`, `y` and `z` of byte 0 but those
of 0xCB (R79). -/
theorem encode_decodePrimary {b0 : Byte} (hcb : b0 ≠ 0xCB#8) (n8 : Byte) (n16 : Word) :
    encode (decodePrimary b0 n8 n16) = rowBytes b0 n8 n16 := by
  obtain ⟨x, y, z, hx, hy, hz, ex, ey, ez⟩ := byte_fields b0
  rw [eq_op_of_fields ex ey ez] at hcb ⊢
  clear ex ey ez
  interval_cases x <;> interval_cases y <;> interval_cases z
  any_goals rfl
  exact absurd rfl hcb

/-- A row of the map behind 0xCB is encoded as it is read (R80). -/
theorem encode_decodeCB (b1 : Byte) : encode (decodeCB b1) = [0xCB#8, b1] := by
  obtain ⟨x, y, z, hx, hy, hz, ex, ey, ez⟩ := byte_fields b1
  rw [eq_op_of_fields ex ey ez]
  clear ex ey ez
  interval_cases x <;> interval_cases y <;> interval_cases z <;> rfl

/-- What the decoder reads from three bytes is encoded as as many of them as the format has. -/
theorem encode_decodeBytes (b0 b1 b2 : Byte) :
    encode (decodeBytes b0 b1 b2) = [b0, b1, b2].take (formatLength b0) := by
  by_cases hcb : b0 = 0xCB#8
  · rw [decodeBytes, if_pos hcb, encode_decodeCB, hcb]
    rfl
  · rw [decodeBytes, if_neg hcb, encode_decodePrimary hcb, rowBytes_eq_take]

/-- The first one to three bytes of a list that is long enough, and the bytes after them, are the list. -/
theorem take_append_drop_of_formatLength {b0 : Byte} {more : List Byte} (h : formatLength b0 - 1 ≤ more.length) :
    [b0, more.getD 0 0#8, more.getD 1 0#8].take (formatLength b0) ++ more.drop (formatLength b0 - 1) = b0 :: more := by
  rcases formatLength_cases b0 with hlen | hlen | hlen <;> rw [hlen] at h ⊢
  · rfl
  · match more, h with
    | b1 :: more, _ => rfl
  · match more, h with
    | b1 :: b2 :: more, _ => rfl

/-- Settles O3: the decoder reads byte 0 and the operand bytes its format has, and the encoder writes those
(`encode_decodeBytes`). -/
theorem decodedBytesAreTheEncoding : Obligations.DecodedBytesAreTheEncoding := by
  intro bytes rest i h
  obtain ⟨b0, more, rfl, hlen, rfl, rfl⟩ := decode_ok h
  rw [encode_decodeBytes, take_append_drop_of_formatLength hlen]

/-! Every value of byte 0. -/

/-- "Eleven values of byte 0 are not instructions" (R81): the illegal rows are those of these bytes, read from them
whatever follows. -/
theorem wellFormed_decodeBytes_eq_false_iff (b0 b1 b2 : Byte) :
    (decodeBytes b0 b1 b2).wellFormed = false ↔
      b0 ∈ [0xD3#8, 0xDB#8, 0xDD#8, 0xE3#8, 0xE4#8, 0xEB#8, 0xEC#8, 0xED#8, 0xF4#8, 0xFC#8, 0xFD#8] := by
  constructor
  · intro hw
    obtain ⟨b, hb⟩ := illegalByte_of_not_wellFormed hw
    have hrow : [b0, b1, b2].take (formatLength b0) = [b] := by
      rw [← encode_decodeBytes, (encodedAs_illegal hb).1]
    obtain ⟨k, hk⟩ := Nat.exists_eq_add_of_le' (formatLength_bounds b0).1
    rw [hk, List.take_succ_cons, List.cons.injEq] at hrow
    exact hrow.1 ▸ illegalByte_mem hb
  · simp only [List.mem_cons, List.not_mem_nil, or_false]
    rintro (rfl | rfl | rfl | rfl | rfl | rfl | rfl | rfl | rfl | rfl | rfl) <;> rfl

/-- Settles O4: the row that byte 0 begins has the length that byte 0 announces (`encode_decodeBytes`), and is illegal
at the eleven bytes only. -/
theorem everyByteBeginsOneInstruction : Obligations.EveryByteBeginsOneInstruction := by
  refine ⟨fun b0 => ⟨(formatLength_bounds b0).1, (formatLength_bounds b0).2, fun b1 b2 rest =>
    ⟨decodeBytes b0 b1 b2, ?_, ?_, wellFormed_decodeBytes_eq_false_iff b0 b1 b2⟩⟩, rfl⟩
  · obtain ⟨k, hk⟩ := Nat.exists_eq_add_of_le' (formatLength_bounds b0).1
    have hmore : formatLength b0 - 1 ≤ (b1 :: b2 :: rest).length := by
      have := (formatLength_bounds b0).2
      simp only [List.length_cons]
      omega
    rw [decode_cons hmore, hk]
    rfl
  · rw [encode_decodeBytes, List.length_take]
    exact Nat.min_eq_left (formatLength_bounds b0).2

/-- Settles O1: the decoder evaluates to each instruction. -/
theorem writtenOutWordsDecode : Obligations.WrittenOutWordsDecode :=
  ⟨rfl, rfl, rfl, rfl, rfl, rfl, rfl, rfl, rfl, rfl, rfl⟩

end Sys2Proof.Machine
end

section
/-! The step (spec/30_encoding.md R71): which bytes it fetches, its end, and the length and cycles it hands back. -/

open Sys2Proof.Claims

namespace Sys2Proof.Machine

/-! Fetching. -/

/-- An address has a cell of the core when it is in no region of the external port. -/
theorem route_eq_ext_iff (a : Word) : route a = .ext ↔ isExternal a := by
  refine ⟨fun h => ?_, route_ext⟩
  have ha := a.isLt
  simp only [route] at h
  unfold isExternal
  split_ifs at h <;> omega

theorem hasCell_iff (a : Word) : hasCell a = true ↔ ¬ isExternal a := by
  rw [hasCell, bne_iff_ne, ne_eq, route_eq_ext_iff]

/-- When the first bytes at PC are an instruction's own and no more, the fetch is their reads in ascending order and no
other read (R64, R71). -/
theorem fetch_of_decode_fetchBytes {s : State} {n : Nat} {i : Instr}
    (h : decode (fetchBytes n s.pc s).1 = .ok (i, [])) : fetch s = (i, (fetchBytes n s.pc s).2) := by
  obtain ⟨b0, more, hbytes, hle, rfl, hdrop⟩ := decode_ok h
  have hn : n = more.length + 1 := by rw [← fetchBytes_length n s.pc s, hbytes, List.length_cons]
  have hmore : formatLength b0 - 1 = more.length := Nat.le_antisymm hle (List.drop_eq_nil_iff.mp hdrop.symm)
  subst hn
  rw [fetchBytes, List.cons.injEq] at hbytes
  obtain ⟨rfl, hmore'⟩ := hbytes
  simp only [fetch, hmore, hmore', fetchBytes]

/-! The end of a step. -/

/-- The fetched instruction is executed in the state the fetch leaves. -/
theorem step_of_fetch {s s' : State} {i : Instr} (h : s.run = .normal) (hf : fetch s = (i, s')) :
    step s = endStep s.imePending (exec i s') := by
  simp only [step, h, hf]

/-- A completed instruction commits the `EI` that was pending at the start of the step and still is, unless it locked
the core (R24, R71). -/
theorem endStep_next (p0 : Bool) (t : State) :
    endStep p0 (.next t) =
      .next (if t.run ≠ .locked ∧ p0 = true ∧ t.imePending = true
        then { t with ime := true, imePending := false } else t) := by
  by_cases hl : t.run = .locked
  · simp only [endStep, hl, if_true, ne_eq, not_true_eq_false, false_and, if_false]
  · simp only [endStep, commitEI, hl, if_false, ne_eq, not_false_eq_true, true_and, Bool.and_eq_true]

/-- Every instruction completes in every state. -/
theorem exec_completes (i : Instr) (s : State) : ∃ t, exec i s = .next t := by
  obtain ⟨e, he⟩ := shape_of i
  exact ⟨e s, exec_of_shape he s⟩

/-- Settles O6: the reads are the fetch's (`fetch_of_decode_fetchBytes`), and the end is
that of a completed instruction (`endStep_next`). -/
theorem stepFetchesExactlyTheInstructionsBytes : Obligations.StepFetchesExactlyTheInstructionsBytes := by
  intro s n i hn hd
  obtain ⟨t, ht⟩ := exec_completes i (fetchBytes n s.pc s).2
  rw [step_of_fetch hn (fetch_of_decode_fetchBytes hd), ht, endStep_next]

/-- Settles O5: reads that no collaborator sees change nothing (`fetch_of_quiet`). -/
theorem stepRunsTheInstructionAtPC : Obligations.StepRunsTheInstructionAtPC := by
  intro s i rest hn hquiet hd
  rw [← hasCell_iff, ← hasCell_iff, ← hasCell_iff] at hquiet
  obtain ⟨b0, more, hbytes, -, rfl, -⟩ := decode_ok hd
  obtain ⟨rfl, rfl⟩ := List.cons.inj hbytes
  have hf := fetch_of_quiet (hquiet.imp_right And.left) (hquiet.imp_right fun h => h.2.1)
    (hquiet.imp_right fun h => h.2.2)
  obtain ⟨t, ht⟩ := exec_completes (decodeBytes (peek s s.pc) (peek s (s.pc + 1#16)) (peek s (s.pc + 2#16))) s
  rw [step_of_fetch hn hf, ht, endStep_next]
  simp only [List.getD_cons_zero, List.getD_cons_succ, ht]

/-- Settles O7: outside Normal a step is `idleStep`. -/
theorem stepOutsideNormalDoesNothing : Obligations.StepOutsideNormalDoesNothing := fun _ h => step_of_not_normal h

/-- Settles O8: in Normal the fetched instruction completes, and elsewhere the step is `idleStep`. -/
theorem everyStepAnswersANextState : Obligations.EveryStepAnswersANextState := by
  intro s
  by_cases hn : s.run = .normal
  · obtain ⟨e, he⟩ := shape_of (fetch s).1
    exact ⟨_, step_of_normal hn he⟩
  · exact ⟨_, step_of_not_normal hn⟩

/-! Length and cycles. -/

/-- Of two ends of an instruction, each hands back its own length and cycles. -/
theorem out_ite {c : Prop} [Decidable c] {s t : State} {o o' : StepOut} (hs : s.out = o) (ht : t.out = o') :
    (if c then s else t).out = o ∨ (if c then s else t).out = o' := by
  split
  · exact .inl hs
  · exact .inr ht

/-- An instruction with one cost hands back the length of its encoding and that cost; one whose cost depends on its
condition, the cost of the branch it took (R71, R353). -/
theorem out_of_shape {i : Instr} {e : State → State} (he : Shape i e) (hw : i.wellFormed = true) (s : State) :
    (e s).out = ⟨(encode i).length, i.cyclesTaken, none⟩ ∨
    (e s).out = ⟨(encode i).length, i.cyclesNotTaken, none⟩ := by
  cases he with
  | jumpAbsIf cc a | jumpRelIf cc n | callAbsIf cc a | retPopIf cc => cases cc <;> exact out_ite rfl rfl
  | illegal i b hb => rw [wellFormed_of_illegalByte hb] at hw; cases hw
  | ldRegReg r r' => exact .inl (by cases r <;> cases r' <;> rfl)
  | ldRegN8 r n | ldRegAtHL r | ldAtHLReg r | incReg r | decReg r => exact .inl (by cases r <;> rfl)
  | ldR16N16 p n | addHLPair p | incPair p | decPair p => exact .inl (by cases p <;> rfl)
  | pushPair p | popPair p => exact .inl (by cases p <;> rfl)
  | aluReg f r | rotReg f r => exact .inl (by cases f <;> cases r <;> rfl)
  | aluAtHL f | aluN8 f n | rotAtHL f => exact .inl (by cases f <;> rfl)
  | bitReg b r | resReg b r | setReg b r => exact .inl (by fin_cases b <;> cases r <;> rfl)
  | bitAtHL b | resAtHL b | setAtHL b => exact .inl (by fin_cases b <;> rfl)
  | rstCall t => exact .inl (by fin_cases t <;> rfl)
  | _ => exact .inl rfl

/-- Settles O9: an instruction's form hands back the length and a cost of the table (`out_of_shape`), an illegal byte
what the exception hands back (R275). -/
theorem everyInstructionCompletesWithTheTablesLengthAndCycles :
    Obligations.EveryInstructionCompletesWithTheTablesLengthAndCycles := by
  intro i s
  cases hb : i.illegalByte with
  | some b => exact ⟨takeInvalidOpcode b s, exec_of_shape (.illegal i b hb) s, rfl⟩
  | none =>
    obtain ⟨e, he⟩ := shape_of i
    exact ⟨e s, exec_of_shape he s, out_of_shape he (by rw [Instr.wellFormed, hb]; rfl) s⟩

end Sys2Proof.Machine
end

section
/-! Rules over all instructions (spec/10_state.md R16, R18, R20, R22, R24; spec/20_memory.md): what an instruction
leaves unchanged, form by form. -/

open Sys2Proof.Claims

namespace Sys2Proof.Machine

/-- The next state of an instruction is the one its form's operation gives. -/
theorem eq_of_exec {i : Instr} {e : State → State} (he : Shape i e) {s t : State} (h : exec i s = .next t) :
    t = e s :=
  Host.Outcome.next.inj (h.symm.trans (exec_of_shape he s))

/-! What an accumulator operation, and a store at HL that moves HL, leave unchanged. -/

section
variable (f : AluOp) (v : Byte) (s : State)

@[simp] theorem aluInto_pc : (aluInto f v s).pc = s.pc := by cases f <;> simp [aluInto]
@[simp] theorem aluInto_sp : (aluInto f v s).sp = s.sp := by cases f <;> simp [aluInto]
@[simp] theorem aluInto_mem : (aluInto f v s).mem = s.mem := by cases f <;> simp [aluInto]

end

section
variable (move : Word) (s : State)

@[simp] theorem ldAtHLAThen_f : (ldAtHLAThen move s).f = s.f := memWrite_f s s.hl s.a
@[simp] theorem ldAtHLAThen_sp : (ldAtHLAThen move s).sp = s.sp := memWrite_sp s s.hl s.a
@[simp] theorem ldAtHLAThen_mem : (ldAtHLAThen move s).mem = (memWrite s s.hl s.a).mem := rfl

end

/-! The run state. -/

/-- Settles O10: `HALT`, `STOP` and the illegal bytes end in their run states, every other form keeps Normal
(`run_of_shape`). -/
theorem onlyHaltStopAndIllegalBytesLeaveNormal : Obligations.OnlyHaltStopAndIllegalBytesLeaveNormal := by
  intro i s t hn h
  by_cases hhalt : i = .halt
  · subst hhalt
    cases h
    exact ⟨iff_of_true rfl rfl, iff_of_false nofun nofun, iff_of_false nofun nofun⟩
  by_cases hstop : ∃ n, i = .stop n
  · obtain ⟨n, rfl⟩ := hstop
    cases h
    exact ⟨iff_of_false nofun hhalt, iff_of_true rfl ⟨n, rfl⟩, iff_of_false nofun nofun⟩
  cases hw : i.wellFormed with
  | false =>
    obtain ⟨b, hb⟩ := illegalByte_of_not_wellFormed hw
    obtain rfl := eq_of_exec (.illegal i b hb) h
    exact ⟨iff_of_false nofun hhalt, iff_of_false nofun hstop, iff_of_true rfl rfl⟩
  | true =>
    obtain ⟨e, he⟩ := shape_of i
    obtain rfl := eq_of_exec he h
    rw [run_of_shape he s hhalt (fun n hi => hstop ⟨n, hi⟩) hw, hn]
    exact ⟨iff_of_false nofun hhalt, iff_of_false nofun hstop, iff_of_false nofun nofun⟩

/-! PC and SP. -/

/-- An instruction that is no control transfer moves PC by the length it hands back (R20). -/
theorem pc_of_shape {i : Instr} {e : State → State} (he : Shape i e) (htr : ¬ ControlTransfer i)
    (hw : i.wellFormed = true) (s : State) : (e s).pc = s.pc + BitVec.ofNat 16 (e s).out.length := by
  cases he with
  | jumpAbs a => exact absurd (.jp a) htr
  | jumpAbsIf cc a => exact absurd (.jpCc cc a) htr
  | jumpHL => exact absurd .jpHL htr
  | jumpRel n => exact absurd (.jr n) htr
  | jumpRelIf cc n => exact absurd (.jrCc cc n) htr
  | callAbs a => exact absurd (.call a) htr
  | callAbsIf cc a => exact absurd (.callCc cc a) htr
  | retPop => exact absurd .ret htr
  | retPopIf cc => exact absurd (.retCc cc) htr
  | reti => exact absurd .reti htr
  | rstCall t => exact absurd (.rst t) htr
  | illegal i b hb => rw [wellFormed_of_illegalByte hb] at hw; cases hw
  | _ =>
    simp [ldRegReg, ldRegN8, ldRegAtHL, ldAtHLReg, ldAtHLN8, ldAFrom, ldToA, ldAtHLAThen, ldAAtHLThen, ldR16N16,
      ldAtA16SP, memWrite16, ldSPFromHL, ldHLFromSP, pushPair, popPair, aluReg, aluAtHL, aluN8, incReg, incAtHL, decReg,
      decAtHL, daaA, cplA, setCarry, complementCarry, addHLPair, incPair, decPair, addSPOffset, rotA, rotReg, rotAtHL,
      bitReg, bitAtHL, resReg, resAtHL, setReg, setAtHL]

/-- Settles O11: PC moves by the length handed back (`pc_of_shape`), which is the encoding's (`out_of_shape`). -/
theorem pcPassesTheInstructionUnlessItTransfersControl :
    Obligations.PcPassesTheInstructionUnlessItTransfersControl := by
  intro i s t htr hw h
  obtain ⟨e, he⟩ := shape_of i
  obtain rfl := eq_of_exec he h
  rw [pc_of_shape he htr hw]
  rcases out_of_shape he hw s with hout | hout <;> rw [hout]

/-- SP is written by the instructions of R18 only. -/
theorem sp_of_shape {i : Instr} {e : State → State} (he : Shape i e) (hsp : ¬ WritesSP i) (s : State) :
    (e s).sp = s.sp := by
  cases he with
  | ldSPFromHL => exact absurd .ldSPHL hsp
  | addSPOffset n => exact absurd (.addSPE8 n) hsp
  | pushPair p => exact absurd (.push p) hsp
  | popPair p => exact absurd (.pop p) hsp
  | callAbs a => exact absurd (.call a) hsp
  | callAbsIf cc a => exact absurd (.callCc cc a) hsp
  | retPop => exact absurd .ret hsp
  | retPopIf cc => exact absurd (.retCc cc) hsp
  | reti => exact absurd .reti hsp
  | rstCall t => exact absurd (.rst t) hsp
  | ldR16N16 p n => exact getR16_setR16_sp s p n (by rintro rfl; exact hsp (.ldSPN16 n))
  | incPair p => exact getR16_setR16_sp s p _ (by rintro rfl; exact hsp .incSP)
  | decPair p => exact getR16_setR16_sp s p _ (by rintro rfl; exact hsp .decSP)
  | jumpAbsIf cc a => rw [jumpAbsIf]; split <;> rfl
  | jumpRelIf cc n => rw [jumpRelIf]; split <;> rfl
  | _ =>
    simp [ldRegReg, ldRegN8, ldRegAtHL, ldAtHLReg, ldAtHLN8, ldAFrom, ldToA, ldAAtHLThen, ldAtA16SP, memWrite16,
      ldHLFromSP, aluReg, aluAtHL, aluN8, incReg, incAtHL, decReg, decAtHL, daaA, cplA, setCarry,
      complementCarry, addHLPair, rotA, rotReg, rotAtHL, bitReg, bitAtHL, resReg, resAtHL, setReg, setAtHL, jumpAbs,
      jumpHL, jumpRel]

/-- Settles O13: every form but those of `WritesSP` leaves SP (`sp_of_shape`). -/
theorem onlyStackAndSPInstructionsChangeSP : Obligations.OnlyStackAndSPInstructionsChangeSP := by
  intro i s t hsp h
  obtain ⟨e, he⟩ := shape_of i
  obtain rfl := eq_of_exec he h
  exact sp_of_shape he hsp s

/-! The flags. -/

/-- The effect of the instruction leaves F. -/
def KeepsF (i : Instr) : Prop := ∃ e, Shape i e ∧ ∀ s, (e s).f = s.f

theorem f_of_keepsF {i : Instr} (h : KeepsF i) {s t : State} (ht : exec i s = .next t) : t.f = s.f := by
  obtain ⟨e, he, hf⟩ := h
  obtain rfl := eq_of_exec he ht
  exact hf s

theorem setStk_f_of_ne_af (s : State) {p : R16Stk} (hp : p ≠ .af) (v : Word) : (s.setStk p v).f = s.f := by
  cases p with
  | af => exact absurd rfl hp
  | _ => rfl

/-- A control transfer writes no flag. -/
theorem keepsF_of_controlTransfer {i : Instr} (h : ControlTransfer i) : KeepsF i := by
  cases h with
  | jp a => exact ⟨_, .jumpAbs a, fun _ => rfl⟩
  | jpCc cc a => exact ⟨_, .jumpAbsIf cc a, fun s => by rw [jumpAbsIf]; split <;> rfl⟩
  | jpHL => exact ⟨_, .jumpHL, fun _ => rfl⟩
  | jr n => exact ⟨_, .jumpRel n, fun _ => rfl⟩
  | jrCc cc n => exact ⟨_, .jumpRelIf cc n, fun s => by rw [jumpRelIf]; split <;> rfl⟩
  | call a => exact ⟨_, .callAbs a, fun s => push16_f s _⟩
  | callCc cc a =>
    refine ⟨_, .callAbsIf cc a, fun s => ?_⟩
    rw [callAbsIf]
    split
    · exact push16_f s _
    · rfl
  | ret => exact ⟨_, .retPop, pop16_f⟩
  | retCc cc =>
    refine ⟨_, .retPopIf cc, fun s => ?_⟩
    rw [retPopIf]
    split
    · exact pop16_f s
    · rfl
  | reti => exact ⟨_, .reti, pop16_f⟩
  | rst t => exact ⟨_, .rstCall t, fun s => push16_f s _⟩

/-- The instructions of R16 that write no flag keep F. -/
theorem keepsF_of_writesNoFlag {i : Instr} (h : WritesNoFlag i) : KeepsF i := by
  cases h with
  | ld r r' => exact ⟨_, .ldRegReg r r', fun s => setR8_f s r _⟩
  | ldFromHL r => exact ⟨_, .ldRegAtHL r, fun s => (setR8_f _ r _).trans (memRead_f s _)⟩
  | ldToHL r => exact ⟨_, .ldAtHLReg r, fun s => memWrite_f s _ _⟩
  | ldN8 l n =>
    cases l with
    | reg r => exact ⟨_, .ldRegN8 r n, fun s => setR8_f s r n⟩
    | atHL => exact ⟨_, .ldAtHLN8 n, fun s => memWrite_f s _ n⟩
  | ldAFrom m =>
    cases m with
    | bc => exact ⟨_, .ldAMemBC, fun s => memRead_f s _⟩
    | de => exact ⟨_, .ldAMemDE, fun s => memRead_f s _⟩
    | hlInc => exact ⟨_, .ldAMemHLInc, fun s => memRead_f s _⟩
    | hlDec => exact ⟨_, .ldAMemHLDec, fun s => memRead_f s _⟩
  | ldToA m =>
    cases m with
    | bc => exact ⟨_, .ldMemBCA, fun s => memWrite_f s _ _⟩
    | de => exact ⟨_, .ldMemDEA, fun s => memWrite_f s _ _⟩
    | hlInc => exact ⟨_, .ldMemHLIncA, ldAtHLAThen_f _⟩
    | hlDec => exact ⟨_, .ldMemHLDecA, ldAtHLAThen_f _⟩
  | ldAMemA16 a => exact ⟨_, .ldAMemA16 a, fun s => memRead_f s a⟩
  | ldMemA16A a => exact ⟨_, .ldMemA16A a, fun s => memWrite_f s a _⟩
  | ldhAMemA8 a => exact ⟨_, .ldhAMemA8 a, fun s => memRead_f s _⟩
  | ldhMemA8A a => exact ⟨_, .ldhMemA8A a, fun s => memWrite_f s _ _⟩
  | ldhAMemC => exact ⟨_, .ldhAMemC, fun s => memRead_f s _⟩
  | ldhMemCA => exact ⟨_, .ldhMemCA, fun s => memWrite_f s _ _⟩
  | ldN16 p n => exact ⟨_, .ldR16N16 p n, fun s => setR16_f s p n⟩
  | ldMemA16SP a => exact ⟨_, .ldAtA16SP a, fun s => (memWrite_f _ _ _).trans (memWrite_f s a _)⟩
  | ldSPHL => exact ⟨_, .ldSPFromHL, fun _ => rfl⟩
  | push p => exact ⟨_, .pushPair p, fun s => push16_f s _⟩
  | pop p hp => exact ⟨_, .popPair p, fun s => (setStk_f_of_ne_af _ hp _).trans (pop16_f s)⟩
  | inc16 p => exact ⟨_, .incPair p, fun s => setR16_f s p _⟩
  | dec16 p => exact ⟨_, .decPair p, fun s => setR16_f s p _⟩
  | res b l =>
    cases l with
    | reg r => exact ⟨_, .resReg b r, fun s => setR8_f s r _⟩
    | atHL => exact ⟨_, .resAtHL b, fun s => (memWrite_f _ _ _).trans (memRead_f s _)⟩
  | set b l =>
    cases l with
    | reg r => exact ⟨_, .setReg b r, fun s => setR8_f s r _⟩
    | atHL => exact ⟨_, .setAtHL b, fun s => (memWrite_f _ _ _).trans (memRead_f s _)⟩
  | transfer i h => exact keepsF_of_controlTransfer h
  | nop => exact ⟨_, .nop, fun _ => rfl⟩
  | halt => exact ⟨_, .halt, fun _ => rfl⟩
  | stop n => exact ⟨_, .stop n, fun _ => rfl⟩
  | di => exact ⟨_, .di, fun _ => rfl⟩
  | ei => exact ⟨_, .ei, fun _ => rfl⟩
  | illegal i hw =>
    obtain ⟨b, hb⟩ := illegalByte_of_not_wellFormed hw
    exact ⟨_, .illegal i b hb, fun _ => rfl⟩

/-- Settles O12: the instructions of `WritesNoFlag` keep F, and the writers of some flags pass on the others they
read. -/
theorem unwrittenFlagsKeepTheirValues : Obligations.UnwrittenFlagsKeepTheirValues := by
  refine ⟨fun i s t hi h => f_of_keepsF (keepsF_of_writesNoFlag hi) h, ?_, fun p s t h => ?_, ?_, fun s t h => ?_,
    fun s t h => ?_, fun s t h => ?_, fun s t h => ?_⟩
  · rintro l i s t (rfl | rfl) h
    · cases l with
      | reg r => obtain rfl := eq_of_exec (.incReg r) h; simp [incReg]
      | atHL => obtain rfl := eq_of_exec .incAtHL h; simp [incAtHL]
    · cases l with
      | reg r => obtain rfl := eq_of_exec (.decReg r) h; simp [decReg]
      | atHL => obtain rfl := eq_of_exec .decAtHL h; simp [decAtHL]
  · obtain rfl := eq_of_exec (.addHLPair p) h
    simp [addHLPair]
  · intro b l s t h
    cases l with
    | reg r => obtain rfl := eq_of_exec (.bitReg b r) h; simp [bitReg]
    | atHL => obtain rfl := eq_of_exec (.bitAtHL b) h; simp [bitAtHL]
  · obtain rfl := eq_of_exec .cpl h
    simp [cplA]
  · obtain rfl := eq_of_exec .scf h
    simp [setCarry]
  · obtain rfl := eq_of_exec .ccf h
    simp [complementCarry]
  · obtain rfl := eq_of_exec .daa h
    simp [daaA]

/-! Memory. -/

/-- A byte of a cell that one byte write does not store to reads as before. -/
theorem peek_of_memWrite {s r t : State} {a b : Word} {v : Byte} (ht : t.mem = (memWrite r a v).mem)
    (hr : r.mem = s.mem) (hb : hasCell b = true) (hne : route b ≠ route a) : peek t b = peek s b :=
  calc peek t b = peek (memWrite r a v) b := peek_congr ht hb
    _ = peek r b := peek_memWrite_ne r v hb hne
    _ = peek s b := peek_congr hr hb

/-- A byte of a cell that a push does not store to reads as before. -/
theorem peek_of_push16 {s t : State} {b : Word} {v : Word} (ht : t.mem = (push16 s v).mem) (hb : hasCell b = true)
    (hhigh : route b ≠ route (s.sp - 1#16)) (hlow : route b ≠ route (s.sp - 2#16)) : peek t b = peek s b := by
  rw [push16_eq_pushed] at ht
  exact (peek_of_memWrite ht rfl hb hlow).trans (peek_memWrite_ne s (hi8 v) hb hhigh)

/-- A byte of a cell that the instruction stores nothing to reads as before. -/
theorem peek_of_shape {i : Instr} {e : State → State} (he : Shape i e) (s : State) {b : Word} (hb : hasCell b = true)
    (hne : ∀ a, Stores i s a → route b ≠ route a) : peek (e s) b = peek s b := by
  cases he with
  | ldAtHLReg r => exact peek_of_memWrite rfl rfl hb (hne _ (.ldToHL r s))
  | ldAtHLN8 n => exact peek_of_memWrite rfl rfl hb (hne _ (.ldN8ToHL n s))
  | ldMemBCA => exact peek_of_memWrite rfl rfl hb (hne _ (.ldToBC s))
  | ldMemDEA => exact peek_of_memWrite rfl rfl hb (hne _ (.ldToDE s))
  | ldMemHLIncA => exact peek_of_memWrite (ldAtHLAThen_mem _ s) rfl hb (hne _ (.ldToHLInc s))
  | ldMemHLDecA => exact peek_of_memWrite (ldAtHLAThen_mem _ s) rfl hb (hne _ (.ldToHLDec s))
  | ldMemA16A a => exact peek_of_memWrite rfl rfl hb (hne _ (.ldMemA16A a s))
  | ldhMemA8A a => exact peek_of_memWrite rfl rfl hb (hne _ (.ldhMemA8A a s))
  | ldhMemCA => exact peek_of_memWrite rfl rfl hb (hne _ (.ldhMemCA s))
  | ldAtA16SP a =>
    have hhigh : peek (ldAtA16SP a s) b = peek (memWrite s a (lo8 s.sp)) b :=
      peek_of_memWrite rfl rfl hb (hne _ (.ldMemA16SPHigh a s))
    exact hhigh.trans (peek_memWrite_ne s _ hb (hne _ (.ldMemA16SPLow a s)))
  | incAtHL => exact peek_of_memWrite rfl (memRead_mem s _) hb (hne _ (.incAtHL s))
  | decAtHL => exact peek_of_memWrite rfl (memRead_mem s _) hb (hne _ (.decAtHL s))
  | rotAtHL f => exact peek_of_memWrite rfl (memRead_mem s _) hb (hne _ (.rotAtHL f s))
  | resAtHL n => exact peek_of_memWrite rfl (memRead_mem s _) hb (hne _ (.resAtHL n s))
  | setAtHL n => exact peek_of_memWrite rfl (memRead_mem s _) hb (hne _ (.setAtHL n s))
  | pushPair p => exact peek_of_push16 rfl hb (hne _ (.pushHigh p s)) (hne _ (.pushLow p s))
  | callAbs a => exact peek_of_push16 rfl hb (hne _ (.callHigh a s)) (hne _ (.callLow a s))
  | rstCall t => exact peek_of_push16 rfl hb (hne _ (.rstHigh t s)) (hne _ (.rstLow t s))
  | callAbsIf cc a =>
    rw [callAbsIf]
    split
    next hcc => exact peek_of_push16 rfl hb (hne _ (.callCcHigh cc a s hcc)) (hne _ (.callCcLow cc a s hcc))
    next => exact peek_congr (finish_mem s 3 3) hb
  | jumpAbsIf cc a =>
    refine peek_congr ?_ hb
    rw [jumpAbsIf]
    split <;> rfl
  | jumpRelIf cc n =>
    refine peek_congr ?_ hb
    rw [jumpRelIf]
    split <;> rfl
  | retPopIf cc =>
    refine peek_congr ?_ hb
    rw [retPopIf]
    split
    · exact pop16_mem s
    · rfl
  | _ =>
    refine peek_congr ?_ hb
    simp [ldRegReg, ldRegN8, ldRegAtHL, ldAFrom, ldAAtHLThen, ldR16N16, ldSPFromHL, ldHLFromSP, popPair, aluReg,
      aluAtHL, aluN8, incReg, decReg, daaA, cplA, setCarry, complementCarry, addHLPair, incPair, decPair, addSPOffset,
      rotA, rotReg, bitReg, bitAtHL, resReg, setReg, jumpAbs, jumpHL, jumpRel, retPop, returnFromInterrupt]

/-- Settles O14: a cell is left by what does not store to it (`peek_of_shape`), and no instruction attaches a
collaborator (`ext_of_shape`), on which alone the external regions depend. -/
theorem memoryChangesOnlyWhereTheInstructionStores : Obligations.MemoryChangesOnlyWhereTheInstructionStores := by
  intro i s t h
  obtain ⟨e, he⟩ := shape_of i
  obtain rfl := eq_of_exec he h
  refine ⟨fun b hb hne => ?_, fun habsent b hb => ?_⟩
  · exact peek_of_shape he s ((hasCell_iff b).mpr hb) fun a ha => (hne a ha).symm
  · exact peek_congr_ext ((ext_of_shape he habsent).trans habsent.symm) ((route_eq_ext_iff b).mpr hb)

/-! IME and the pending `EI`. -/

/-- The end of a step in Normal, from the instruction's next state. -/
theorem eq_of_step {s t u : State} (hn : s.run = .normal) (hu : exec (fetch s).1 (fetch s).2 = .next u)
    (h : step s = .next t) :
    t = if u.run ≠ .locked ∧ s.imePending = true ∧ u.imePending = true
      then { u with ime := true, imePending := false } else u := by
  rw [step_of_fetch (s' := (fetch s).2) (i := (fetch s).1) hn rfl, hu, endStep_next] at h
  exact (Host.Outcome.next.inj h).symm

/-- A step that fetches an instruction, not an illegal byte, does not lock the core. -/
theorem not_locked_of_wellFormed {s u : State} (hn : s.run = .normal)
    (hu : exec (fetch s).1 (fetch s).2 = .next u) (hw : (fetch s).1.wellFormed = true) : u.run ≠ .locked := by
  obtain ⟨-, -, hlocked⟩ := onlyHaltStopAndIllegalBytesLeaveNormal _ _ u ((fetch_run s).trans hn) hu
  rw [ne_eq, hlocked, hw]
  nofun

/-- An instruction that changes IME is `DI`, which clears it, or `RETI`, which sets it. -/
theorem di_or_reti_of_ime_ne {i : Instr} {e : State → State} (he : Shape i e) {s : State}
    (hime : (e s).ime ≠ s.ime) : ((e s).ime = false ∧ i = .di) ∨ ((e s).ime = true ∧ i = .reti) := by
  by_cases hdi : i = .di
  · subst hdi
    obtain hs := eq_of_exec .di (exec_of_shape he s)
    exact .inl ⟨by rw [hs]; rfl, rfl⟩
  by_cases hreti : i = .reti
  · subst hreti
    obtain hs := eq_of_exec .reti (exec_of_shape he s)
    exact .inr ⟨by rw [hs]; rfl, rfl⟩
  · exact absurd (ime_of_shape he s hdi hreti) hime

/-- Settles O15: an instruction changes IME as `DI` and `RETI` do (`di_or_reti_of_ime_ne`), and the end of a step by the
commit of a pending `EI` only. -/
theorem imeChangesOnlyByDiRetiAndTheCommit : Obligations.ImeChangesOnlyByDiRetiAndTheCommit := by
  intro s t h hime
  have instruction : ∀ {e}, Shape (fetch s).1 e → (e (fetch s).2).ime ≠ s.ime →
      ((e (fetch s).2).ime = false ∧ (fetch s).1 = .di) ∨
      ((e (fetch s).2).ime = true ∧ ((fetch s).1 = .reti ∨ s.imePending = true)) := fun he hne =>
    (di_or_reti_of_ime_ne he (by rwa [fetch_ime])).imp_right fun ⟨htrue, hreti⟩ => ⟨htrue, .inl hreti⟩
  rcases step_cases h with ⟨-, rfl⟩ | ⟨-, e, he, ⟨-, rfl⟩ | ⟨-, rfl⟩⟩
  · exact absurd rfl hime
  · exact instruction he hime
  · rcases commitEI_cases (e (fetch s).2) s.imePending with hsame | ⟨hpending, -, hcommit⟩
    · rw [hsame] at hime ⊢
      exact instruction he hime
    · rw [hcommit]
      exact .inr ⟨rfl, .inr hpending⟩

/-- Settles O16: `EI` sets IME_pending, which no form but `DI` and `EI` writes (`imePending_of_shape`), so it is there
for the commit at the end of the next step that does not lock the core. -/
theorem eiTakesEffectAfterTheNextInstruction : Obligations.EiTakesEffectAfterTheNextInstruction := by
  refine ⟨fun s t hn hp hi h => ?_, fun s t hn hp hw hdi h => ?_, fun s t hn hi h => ?_, fun s t hn hw h => ?_⟩
  · obtain rfl := eq_of_step hn (hi ▸ exec_of_shape .ei _) h
    simp [hp]
  · obtain ⟨e, he⟩ := shape_of (fetch s).1
    have hu := exec_of_shape he (fetch s).2
    obtain rfl := eq_of_step hn hu h
    have hpending : (e (fetch s).2).imePending = true := by
      by_cases hei : (fetch s).1 = .ei
      · rw [hei] at hu
        rw [← Host.Outcome.next.inj hu]
        rfl
      · rw [imePending_of_shape he _ hdi hei, fetch_imePending, hp]
    rw [if_pos ⟨not_locked_of_wellFormed hn hu hw, hp, hpending⟩]
    exact ⟨rfl, rfl⟩
  · obtain rfl := eq_of_step hn (hi ▸ exec_of_shape .di _) h
    simp
  · obtain ⟨b, hb⟩ := illegalByte_of_not_wellFormed hw
    obtain rfl := eq_of_step hn (exec_of_shape (.illegal _ b hb) _) h
    simp

end Sys2Proof.Machine
end

section
/-! What every step and every schedule of driver moves keeps (spec/10_state.md R12; spec/20_memory.md R42, R43;
spec/60_exceptions.md R301). -/

open Sys2Proof.Claims

namespace Sys2Proof.Machine

/-! The invariant. -/

/-- The invariant is about memory and F alone. -/
theorem inv_congr {s t : State} (h : s.Inv) (hmem : t.mem = s.mem) (hf : t.f = s.f) : t.Inv where
  memCanonical := hmem ▸ h.memCanonical
  memInCells := hmem ▸ h.memInCells
  flagsLow := hf ▸ h.flagsLow

/-- Byte writes of the core keep the invariant of memory. -/
theorem inv_of_written {s t : State} (h : s.Inv) (hmem : Written s.mem t.mem) (hf : t.f &&& 0x0F#8 = 0#8) : t.Inv :=
  have ⟨hcanonical, hcells⟩ := written_keeps hmem h.memCanonical h.memInCells
  ⟨hcanonical, hcells, hf⟩

/-- Four flags leave the low nibble zero. -/
theorem packF_low (z n h c : Bool) : packF z n h c &&& 0x0F#8 = 0#8 := by
  rw [← packF_masked, low_of_masked]

theorem aluInto_low (f : AluOp) (v : Byte) (s : State) : (aluInto f v s).f &&& 0x0F#8 = 0#8 := low_of_masked _

/-- A popped pair other than AF leaves F, and AF is masked (R12). -/
theorem setStk_low {s : State} (h : s.f &&& 0x0F#8 = 0#8) (p : R16Stk) (v : Word) :
    (s.setStk p v).f &&& 0x0F#8 = 0#8 := by
  cases p with
  | af => exact low_of_masked _
  | _ => exact h

/-- "Every write to F stores `v & 0xF0`" (R12): every form leaves F or writes it masked. -/
theorem flagsLow_of_shape {i : Instr} {e : State → State} (he : Shape i e) {s : State} (h : s.f &&& 0x0F#8 = 0#8) :
    (e s).f &&& 0x0F#8 = 0#8 := by
  cases he with
  | aluReg f r => exact aluInto_low f _ s
  | aluAtHL f => exact aluInto_low f _ _
  | aluN8 f n => exact aluInto_low f n s
  | popPair p => exact setStk_low ((congrArg (· &&& 0x0F#8) (pop16_f s)).trans h) p _
  | incReg r | decReg r | incAtHL | decAtHL | daa | cpl | scf | ccf => exact low_of_masked _
  | addHLPair p | addSPOffset n | ldHLFromSP n => exact low_of_masked _
  | rlca | rrca | rla | rra | rotReg f r | rotAtHL f | bitReg b r | bitAtHL b => exact low_of_masked _
  | jumpAbsIf cc a => rw [jumpAbsIf]; split <;> exact h
  | jumpRelIf cc n => rw [jumpRelIf]; split <;> exact h
  | callAbsIf cc a => rw [callAbsIf]; split <;> simpa using h
  | retPopIf cc => rw [retPopIf]; split <;> simpa using h
  | _ =>
    simpa [ldRegReg, ldRegN8, ldRegAtHL, ldAtHLReg, ldAtHLN8, ldAFrom, ldToA, ldAAtHLThen, ldR16N16, ldAtA16SP,
      memWrite16, ldSPFromHL, pushPair, incPair, decPair, resReg, resAtHL, setReg, setAtHL, jumpAbs, jumpHL, jumpRel,
      callAbs, retPop, returnFromInterrupt, rstCall] using h

/-- Every instruction keeps the invariant. -/
theorem inv_of_shape {i : Instr} {e : State → State} (he : Shape i e) {s : State} (h : s.Inv) : (e s).Inv :=
  inv_of_written h (written_of_shape he s) (flagsLow_of_shape he h.flagsLow)

/-- Settles O17: fetching and the commit leave memory and F, and every form keeps the invariant (`inv_of_shape`). -/
theorem everyStepKeepsTheInvariant : Obligations.EveryStepKeepsTheInvariant := by
  intro s t h hstep
  have hfetch : (fetch s).2.Inv := inv_congr h (fetch_mem s) (fetch_f s)
  rcases step_cases hstep with ⟨-, rfl⟩ | ⟨-, e, he, ⟨-, rfl⟩ | ⟨-, rfl⟩⟩
  · exact inv_congr h rfl rfl
  · exact inv_of_shape he hfetch
  · exact inv_congr (inv_of_shape he hfetch) (commitEI_mem _ _) (commitEI_f _ _)

/-- The state after reset meets the invariant when the memory it is given does. -/
theorem inv_powerOn (p : ResetParams) {mem : List Host.Cell} (ext : ExtPort) (hcanonical : Memory.wf mem = true)
    (hcells : Memory.inCells mem = true) : (State.powerOn p mem ext).Inv :=
  ⟨hcanonical, hcells, low_of_masked p.f⟩

/-- Settles O18: reset masks F and takes the memory it is given (`inv_powerOn`). -/
theorem resetMeetsTheInvariant : Obligations.ResetMeetsTheInvariant :=
  ⟨fun p _ ext => inv_powerOn p ext, inv_powerOn _ _ rfl rfl⟩

/-! Schedules of driver moves. -/

/-- All that a driver's move can do: nothing, a step, or one of the four moves between steps (R301). -/
theorem afterMove_cases (m : Move) (s : State) :
    afterMove m s = s ∨
    (m = .step ∧ step s = .next (afterMove m s)) ∨
    (∃ vec, m = .deliverInterrupt vec ∧ s.deliveryPermitted = true ∧ afterMove m s = takeInterrupt vec s) ∨
    (m = .wake ∧ s.wakePermitted = true ∧ afterMove m s = { s with run := .normal }) ∨
    (m = .reset ∧ afterMove m s = applyReset s) ∨
    (∃ a, m = .observe a ∧ afterMove m s = (memRead s a).2) := by
  cases m with
  | step =>
    obtain ⟨t, ht⟩ := everyStepAnswersANextState s
    have hafter : afterMove .step s = t := by simp only [afterMove, driverMove, ht]
    exact .inr (.inl ⟨rfl, by rw [hafter, ht]⟩)
  | deliverInterrupt vec =>
    by_cases h : s.deliveryPermitted = true
    · exact .inr (.inr (.inl ⟨vec, rfl, h, by simp only [afterMove, driverMove, h, if_true]⟩))
    · exact .inl (by simp only [afterMove, driverMove, h]; rfl)
  | wake =>
    by_cases h : s.wakePermitted = true
    · exact .inr (.inr (.inr (.inl ⟨rfl, h, by simp only [afterMove, driverMove, h, if_true]⟩)))
    · exact .inl (by simp only [afterMove, driverMove, h]; rfl)
  | reset => exact .inr (.inr (.inr (.inr (.inl ⟨rfl, rfl⟩))))
  | observe a => exact .inr (.inr (.inr (.inr (.inr ⟨a, rfl, rfl⟩))))

/-- What each move of a schedule keeps, the schedule keeps. -/
theorem runSchedule_induction {P : State → Prop} {moves : List Move}
    (hmove : ∀ m ∈ moves, ∀ s, P s → P (afterMove m s)) {s : State} (h : P s) : P (runSchedule moves s) := by
  induction moves generalizing s with
  | nil => exact h
  | cons m moves ih =>
    exact ih (fun m' hm' => hmove m' (List.mem_cons_of_mem m hm')) (hmove m List.mem_cons_self s h)

/-- Taking an interrupt writes memory by the push of PC only. -/
theorem written_takeInterrupt (vec : Word) (s : State) : Written s.mem (takeInterrupt vec s).mem :=
  written_push16 { s with ime := false, imePending := false, run := .normal } s.pc

theorem takeInterrupt_f (vec : Word) (s : State) : (takeInterrupt vec s).f = s.f :=
  push16_f { s with ime := false, imePending := false, run := .normal } s.pc

theorem takeInterrupt_params (vec : Word) (s : State) : (takeInterrupt vec s).params = s.params :=
  push16_params { s with ime := false, imePending := false, run := .normal } s.pc

/-- Every move of the driver keeps the invariant. -/
theorem inv_afterMove (m : Move) {s : State} (h : s.Inv) : (afterMove m s).Inv := by
  rcases afterMove_cases m s with hm | ⟨-, hm⟩ | ⟨vec, -, -, hm⟩ | ⟨-, -, hm⟩ | ⟨-, hm⟩ | ⟨a, -, hm⟩
  · rwa [hm]
  · exact everyStepKeepsTheInvariant s _ h hm
  · rw [hm]
    exact inv_of_written h (written_takeInterrupt vec s) (takeInterrupt_f vec s ▸ h.flagsLow)
  · rw [hm]
    exact inv_congr h rfl rfl
  · rw [hm]
    exact inv_congr (inv_powerOn s.params s.ext h.memCanonical h.memInCells) rfl rfl
  · rw [hm]
    exact inv_congr h (memRead_mem s a) (memRead_f s a)

/-- Settles O19: by induction on the schedule, since every move keeps the invariant (`inv_afterMove`). -/
theorem everyDriverScheduleKeepsTheInvariant : Obligations.EveryDriverScheduleKeepsTheInvariant :=
  fun _ _ h => runSchedule_induction (fun m _ _ => inv_afterMove m) h

/-! The ROM image and the reset parameters. -/

/-- A step writes memory as a core writes it. -/
theorem written_step {s t : State} (h : step s = .next t) : Written s.mem t.mem := by
  rcases step_cases h with ⟨-, rfl⟩ | ⟨-, e, he, ⟨-, rfl⟩ | ⟨-, rfl⟩⟩
  · exact .refl _
  · exact fetch_mem s ▸ written_of_shape he (fetch s).2
  · rw [commitEI_mem]
    exact fetch_mem s ▸ written_of_shape he (fetch s).2

theorem params_step {s t : State} (h : step s = .next t) : t.params = s.params := by
  rcases step_cases h with ⟨-, rfl⟩ | ⟨-, e, he, ⟨-, rfl⟩ | ⟨-, rfl⟩⟩
  · rfl
  · rw [params_of_shape he, fetch_params]
  · rw [commitEI_params, params_of_shape he, fetch_params]

theorem written_afterMove (m : Move) (s : State) : Written s.mem (afterMove m s).mem := by
  rcases afterMove_cases m s with hm | ⟨-, hm⟩ | ⟨vec, -, -, hm⟩ | ⟨-, -, hm⟩ | ⟨-, hm⟩ | ⟨a, -, hm⟩
  · rw [hm]
    exact .refl _
  · exact written_step hm
  · rw [hm]
    exact written_takeInterrupt vec s
  · rw [hm]
    exact .refl _
  · rw [hm]
    exact .refl _
  · rw [hm]
    exact written_of_eq (memRead_mem s a)

theorem params_afterMove (m : Move) (s : State) : (afterMove m s).params = s.params := by
  rcases afterMove_cases m s with hm | ⟨-, hm⟩ | ⟨vec, -, -, hm⟩ | ⟨-, -, hm⟩ | ⟨-, hm⟩ | ⟨a, -, hm⟩
  · rw [hm]
  · exact params_step hm
  · rw [hm, takeInterrupt_params]
  · rw [hm]
  · rw [hm]
    rfl
  · rw [hm, memRead_params]

/-- A byte of the ROM window is its cell's. -/
theorem peek_rom (s : State) {a : Word} (h : inRom a) : peek s a = Memory.get s.mem a.toNat := by
  simp only [peek, memRead, route_rom h]

/-- Settles O20: no move changes the parameters, and no byte write of the core changes a cell of the ROM window
(`written_rom`). -/
theorem noScheduleChangesRomOrParameters : Obligations.NoScheduleChangesRomOrParameters := by
  intro moves s
  refine ⟨runSchedule_induction (P := fun t => t.params = s.params)
    (fun m _ t ht => (params_afterMove m t).trans ht) rfl, fun a ha => ?_⟩
  rw [peek_rom _ ha, peek_rom _ ha]
  exact runSchedule_induction (P := fun t => Memory.get t.mem a.toNat = Memory.get s.mem a.toNat)
    (fun m _ t ht => (written_rom (written_afterMove m t) ha).trans ht) rfl

/-! The locked core. -/

/-- A move other than `Reset` changes nothing of a locked core but the last step's output and the collaborator. -/
theorem afterMove_of_locked {m : Move} (hm : m ≠ .reset) {s : State} (h : s.run = .locked) :
    { afterMove m s with out := s.out, ext := s.ext } = s := by
  rcases afterMove_cases m s with hs | ⟨-, hs⟩ | ⟨vec, -, hp, -⟩ | ⟨-, hp, -⟩ | ⟨hr, -⟩ | ⟨a, -, hs⟩
  · rw [hs]
  · rw [step_of_not_normal (by rw [h]; nofun)] at hs
    rw [← Host.Outcome.next.inj hs, idleStep]
  · simp [State.deliveryPermitted, h] at hp
  · simp [State.wakePermitted, h] at hp
  · exact absurd hr hm
  · obtain ⟨x, hx⟩ := memRead_state s a
    rw [hs, hx]

/-- Settles O21: by induction on the schedule, whose states all are the locked core but for the last step's output and
the collaborator (`afterMove_of_locked`). -/
theorem onlyResetLeavesLocked : Obligations.OnlyResetLeavesLocked := by
  intro moves s hl hreset
  refine runSchedule_induction (P := fun t => { t with out := s.out, ext := s.ext } = s) (fun m hm t ht => ?_) rfl
  have hmove := afterMove_of_locked (m := m) (s := t) (fun h => hreset (h ▸ hm)) ((congrArg State.run ht).trans hl)
  calc { afterMove m t with out := s.out, ext := s.ext }
      = { { afterMove m t with out := t.out, ext := t.ext } with out := s.out, ext := s.ext } := rfl
    _ = { t with out := s.out, ext := s.ext } := by rw [hmove]
    _ = s := ht

end Sys2Proof.Machine
end

section
/-! The router's table and the stack round trips (spec/20_memory.md R43 to R51; spec/41_load16_stack.md R132, R133). -/

open Sys2Proof.Claims

namespace Sys2Proof.Machine

/-! Reads and writes, region by region. -/

theorem memRead_of_route_rom {a : Word} {k : Nat} (h : route a = .rom k) (s : State) :
    memRead s a = (Memory.get s.mem k, s) := by
  simp only [memRead, h]

theorem memRead_of_route_ext {a : Word} (h : route a = .ext) (s : State) : memRead s a = extRead s a := by
  simp only [memRead, h]

theorem memWrite_of_route_rom {a : Word} {k : Nat} (h : route a = .rom k) (s : State) (v : Byte) :
    memWrite s a v = s := by
  simp only [memWrite, h]

theorem memWrite_of_route_ext {a : Word} (h : route a = .ext) (s : State) (v : Byte) :
    memWrite s a v = extWrite s a v := by
  simp only [memWrite, h]

/-- Settles O24: each region's route gives its read (R43). -/
theorem readsFollowTheRoutersTable : Obligations.ReadsFollowTheRoutersTable := by
  intro s a
  refine ⟨fun h => memRead_of_route_rom (route_rom h) s, fun h => memRead_of_route_ram (route_working h.1 h.2) s,
    fun h => memRead_of_route_ram (route_echo h.1 h.2) s, fun h => memRead_of_route_ram (route_high h.1 h.2) s,
    fun h he => ?_, fun h hist he => ?_⟩
  · simp only [memRead_of_route_ext (route_ext h), extRead, he]
  · simp only [memRead_of_route_ext (route_ext h), extRead, he]

/-- A write to a cell changes that cell and no other. -/
theorem get_set {m : List Host.Cell} (h : Memory.wf m = true) (k k' : Nat) (v : Byte) :
    Memory.get (Memory.set m k v) k' = if k' = k then v else Memory.get m k' := by
  split
  next hk => rw [hk, Memory.get_set_same h]
  next hk => exact Memory.get_set_ne m v (Ne.symm hk)

/-- Settles O25: each region's route gives its write (R44), and a write to a cell is `get_set`. -/
theorem writesFollowTheRoutersTable : Obligations.WritesFollowTheRoutersTable := by
  intro s a v
  refine ⟨fun h => memWrite_of_route_rom (route_rom h) s v,
    fun h => memWrite_of_route_ram (route_working h.1 h.2) s v,
    fun h => memWrite_of_route_ram (route_echo h.1 h.2) s v, fun h => memWrite_of_route_ram (route_high h.1 h.2) s v,
    fun h he => ?_, fun h hist he => ?_, fun hs k k' => get_set hs.memCanonical k k' v⟩
  · simp only [memWrite_of_route_ext (route_ext h), extWrite, he]
  · simp only [memWrite_of_route_ext (route_ext h), extWrite, he]

/-- An address in RAM has the route of a RAM cell. -/
theorem route_of_inRam {a : Word} (h : inRam a) : ∃ k, route a = .ram k := by
  rcases h with ⟨hlow, hhigh⟩ | ⟨hlow, hhigh⟩
  · by_cases hecho : a.toNat < 0xE000
    · exact ⟨_, route_working hlow hecho⟩
    · exact ⟨_, route_echo (by omega) hhigh⟩
  · exact ⟨_, route_high hlow hhigh⟩

/-- Settles O26: both addresses name cells of the core, and a RAM cell keeps the byte written. -/
theorem readAfterWriteGivesTheByteWritten : Obligations.ReadAfterWriteGivesTheByteWritten := by
  intro s a v hs ha
  obtain ⟨k, hk⟩ := route_of_inRam ha
  exact ⟨peek_memWrite_same hs.memCanonical hk v, fun b hb hne => peek_memWrite_ne s v ((hasCell_iff b).mpr hb) hne⟩

/-! The stack. -/

theorem hasCell_of_route_ram {a : Word} {k : Nat} (h : route a = .ram k) : hasCell a = true := by
  rw [hasCell, h]
  rfl

/-- Two stack bytes in RAM are two cells: neighbouring addresses are no echoes of each other. -/
theorem route_ne_of_adjacent {a : Word} {k k' : Nat} (hk : route a = .ram k) (hk' : route (a + 1#16) = .ram k') :
    route a ≠ route (a + 1#16) := by
  intro heq
  rw [hk, hk', Route.ram.injEq] at heq
  have h1 := toNat_of_route_ram hk
  have h2 := toNat_of_route_ram hk'
  have hadd : (a + 1#16).toNat = (a.toNat + 1) % 65536 := by simp
  have := a.isLt
  omega

/-- The two stack bytes of a push with the stack in RAM are two cells of RAM. -/
theorem stack_routes {s : State} (hhigh : inRam (s.sp - 1#16)) (hlow : inRam (s.sp - 2#16)) :
    ∃ j k, route (s.sp - 2#16) = .ram j ∧ route (s.sp - 1#16) = .ram k ∧
      route (s.sp - 1#16) ≠ route (s.sp - 2#16) := by
  obtain ⟨k, hk⟩ := route_of_inRam hhigh
  obtain ⟨j, hj⟩ := route_of_inRam hlow
  have hnext : s.sp - 2#16 + 1#16 = s.sp - 1#16 := by bv_omega
  exact ⟨j, k, hj, hk, hnext ▸ (route_ne_of_adjacent hj (hnext.symm ▸ hk)).symm⟩

theorem pushed_mem (s : State) (v : Word) :
    (pushed s v).mem = (memWrite (memWrite s (s.sp - 1#16) (hi8 v)) (s.sp - 2#16) (lo8 v)).mem := rfl

/-- `Push16(v)` leaves the low byte at SP minus 2 and the high byte at SP minus 1 (R132). -/
theorem peek_pushed {s : State} (hs : s.Inv) (hhigh : inRam (s.sp - 1#16)) (hlow : inRam (s.sp - 2#16)) (v : Word) :
    peek (pushed s v) (s.sp - 2#16) = lo8 v ∧ peek (pushed s v) (s.sp - 1#16) = hi8 v := by
  obtain ⟨j, k, hj, hk, hne⟩ := stack_routes hhigh hlow
  have hcanonical : Memory.wf (memWrite s (s.sp - 1#16) (hi8 v)).mem = true :=
    (memWrite_keeps hs.memCanonical hs.memInCells _ _).1
  constructor
  · calc peek (pushed s v) (s.sp - 2#16)
        = peek (memWrite (memWrite s (s.sp - 1#16) (hi8 v)) (s.sp - 2#16) (lo8 v)) (s.sp - 2#16) :=
          peek_congr (pushed_mem s v) (hasCell_of_route_ram hj)
      _ = lo8 v := peek_memWrite_same hcanonical hj _
  · calc peek (pushed s v) (s.sp - 1#16)
        = peek (memWrite s (s.sp - 1#16) (hi8 v)) (s.sp - 1#16) :=
          peek_of_memWrite (pushed_mem s v) rfl (hasCell_of_route_ram hk) hne
      _ = hi8 v := peek_memWrite_same hs.memCanonical hk _

/-- `Pop16()` of two bytes in cells of the core gives them, the one at SP the low one (R133). -/
theorem popValue_of_hasCell {t : State} (hlow : hasCell t.sp = true) (hhigh : hasCell (t.sp + 1#16) = true) :
    popValue t = pair16 (peek t (t.sp + 1#16)) (peek t t.sp) := by
  have hpopLow : popLow t = (peek t t.sp, t) := memRead_of_hasCell hlow
  rw [popValue, popHigh, hpopLow, memRead_of_hasCell hhigh]

/-- With the two stack bytes in RAM, `Pop16()` gives what `Push16(v)` stored, from any state with the memory and the SP
that the push left. -/
theorem popValue_of_pushed {s t : State} {v : Word} (hs : s.Inv) (hhigh : inRam (s.sp - 1#16))
    (hlow : inRam (s.sp - 2#16)) (hmem : t.mem = (pushed s v).mem) (hsp : t.sp = s.sp - 2#16) : popValue t = v := by
  obtain ⟨j, k, hj, hk, -⟩ := stack_routes hhigh hlow
  obtain ⟨hpeekLow, hpeekHigh⟩ := peek_pushed hs hhigh hlow v
  have hnext : t.sp + 1#16 = s.sp - 1#16 := by bv_omega
  have hcellLow := hasCell_of_route_ram hj
  have hcellHigh := hasCell_of_route_ram hk
  rw [popValue_of_hasCell (hsp ▸ hcellLow) (hnext ▸ hcellHigh), hnext, hsp, peek_congr hmem hcellLow,
    peek_congr hmem hcellHigh, hpeekLow, hpeekHigh, pair16_hi8_lo8]

/-- `Pop16()` ends where `Push16(v)` began. -/
theorem popped_sp_of_pushed {s t : State} (hsp : t.sp = s.sp - 2#16) : (popped t).sp = s.sp := by
  rw [popped, hsp]
  bv_omega

/-- Masking a pair is masking its low byte. -/
theorem pair16_masked (hi lo : Byte) : pair16 hi (lo &&& 0xF0#8) = pair16 hi lo &&& 0xFFF0#16 :=
  calc pair16 hi (lo &&& 0xF0#8) = pair16 (hi &&& 0xFF#8) (lo &&& 0xF0#8) :=
      congrArg (pair16 · _) (BitVec.and_allOnes (x := hi)).symm
    _ = pair16 hi lo &&& pair16 0xFF#8 0xF0#8 := BitVec.and_append.symm

/-- A pair written is what the pair reads, masked for AF (R11, R12). -/
theorem getStk_setStk (s : State) (q : R16Stk) (v : Word) :
    (s.setStk q v).getStk q = if q = .af then v &&& 0xFFF0#16 else v := by
  cases q with
  | af =>
    rw [if_pos rfl]
    calc pair16 (hi8 v) (lo8 v &&& 0xF0#8) = pair16 (hi8 v) (lo8 v) &&& 0xFFF0#16 := pair16_masked ..
      _ = v &&& 0xFFF0#16 := by rw [pair16_hi8_lo8]
  | _ => exact pair16_hi8_lo8 v

theorem getStk_ends (s : State) (n k : Nat) (q : R16Stk) : (ends s n k).getStk q = s.getStk q := by cases q <;> rfl

/-- The mask changes nothing of an AF whose low nibble is zero (R12). -/
theorem af_masked {s : State} (hs : s.Inv) : s.af &&& 0xFFF0#16 = s.af := by
  have hf : s.f &&& 0xF0#8 = s.f := by
    rw [← packF_getLsbD s.f hs.flagsLow, packF_masked]
  rw [State.af, ← pair16_masked, hf]

/-- Settles O36: the pop reads what the push stored (`popValue_of_pushed`), and a pushed AF has nothing for the mask to
clear (`af_masked`). -/
theorem pushThenPopRoundTrips : Obligations.PushThenPopRoundTrips := by
  intro p q s t u hs hhigh hlow hpush hpop
  have ht : t = ends (pushed s (s.getStk p)) 1 4 :=
    Host.Outcome.next.inj (hpush.symm.trans (pushStoresTheHighByteFirst p s).2)
  have hu : u = ends ((popped t).setStk q (popValue t)) 1 3 :=
    Host.Outcome.next.inj (hpop.symm.trans (exec_pop q t))
  have hvalue : popValue t = s.getStk p := popValue_of_pushed hs hhigh hlow (by rw [ht]; rfl) (by rw [ht]; rfl)
  have hpair : u.getStk q = if q = .af then s.getStk p &&& 0xFFF0#16 else s.getStk p := by
    rw [hu, getStk_ends, getStk_setStk, hvalue]
  refine ⟨hpair, ?_, ?_⟩
  · rintro rfl
    rw [hpair, State.getStk, af_masked hs, ite_self]
  · calc u.sp = ((popped t).setStk q (popValue t)).sp := by rw [hu]; rfl
      _ = (popped t).sp := setStk_sp ..
      _ = s.sp := popped_sp_of_pushed (by rw [ht]; rfl)

/-- Settles O55: the return pops the address that the call pushed (`popValue_of_pushed`). -/
theorem returnComesBackBehindTheCall : Obligations.ReturnComesBackBehindTheCall := by
  intro s t u i length hs hhigh hlow hi hcall hret
  obtain ⟨callAbs, -, rst⟩ := callsPushTheReturnAddress
  obtain ⟨ret, -⟩ := returnsPopThePC
  obtain rfl := Host.Outcome.next.inj ((ret t).2.symm.trans hret)
  rcases hi with ⟨⟨a, rfl⟩, rfl⟩ | ⟨⟨v, rfl⟩, rfl⟩
  · obtain rfl := Host.Outcome.next.inj ((callAbs a s).2.symm.trans hcall)
    exact ⟨popValue_of_pushed hs hhigh hlow rfl rfl, popped_sp_of_pushed rfl⟩
  · obtain rfl := Host.Outcome.next.inj ((rst v s).2.symm.trans hcall)
    exact ⟨popValue_of_pushed hs hhigh hlow rfl rfl, popped_sp_of_pushed rfl⟩

end Sys2Proof.Machine
end

section
/-! The system instructions, the illegal bytes and the driver's moves (spec/46_system.md; spec/60_exceptions.md;
spec/70_reset_and_hazards.md R340). -/

open Sys2Proof.Claims

namespace Sys2Proof.Machine

/-- The return from an interrupt by what `Pop16` does; IME is set at once (R260). -/
theorem returnFromInterrupt_eq (s : State) :
    returnFromInterrupt s = { endsAt (popped s) (popValue s) 1 4 with ime := true } := by
  rw [returnFromInterrupt, pop16_eq_popped]
  rfl

/-- Settles O56: each form's operation is the rule's. -/
theorem systemInstructionsChangeRunStateAndIme : Obligations.SystemInstructionsChangeRunStateAndIme := fun n s =>
  ⟨encodedAs_of_decodeBytes rfl rfl fun _ => rfl, exec_of_shape_finish .nop rfl,
    encodedAs_of_decodeBytes rfl rfl fun _ => rfl, exec_of_shape_finish .halt rfl,
    encodedAs_of_decodeBytes rfl rfl fun _ => rfl, exec_of_shape_finish (.stop n) rfl,
    encodedAs_of_decodeBytes rfl rfl fun _ => rfl, exec_of_shape_finish .di rfl,
    encodedAs_of_decodeBytes rfl rfl fun _ => rfl, exec_of_shape_finish .ei rfl,
    encodedAs_of_decodeBytes rfl rfl fun _ => rfl,
    (exec_of_shape .reti s).trans (congrArg _ (returnFromInterrupt_eq s))⟩

/-! Illegal bytes. -/

/-- An instruction of one byte is fetched by one read. -/
theorem fetch_of_length_one {s : State} (h : formatLength (peek s s.pc) = 1) :
    fetch s = (decodeBytes (peek s s.pc) 0#8 0#8, (memRead s s.pc).2) := by
  simp only [peek] at h ⊢
  simp only [fetch, h]
  rfl

/-- An illegal byte is a row of one byte, whatever follows it. -/
theorem illegalByte_decodeBytes {b : Byte}
    (h : b ∈ [0xD3#8, 0xDB#8, 0xDD#8, 0xE3#8, 0xE4#8, 0xEB#8, 0xEC#8, 0xED#8, 0xF4#8, 0xFC#8, 0xFD#8]) :
    formatLength b = 1 ∧ (decodeBytes b 0#8 0#8).illegalByte = some b := by
  revert b
  decide

/-- Settles O57: an illegal byte is fetched alone and locks the core, and a locked core is neither Normal, nor Halted,
nor Stopped. -/
theorem illegalBytesLockTheCore : Obligations.IllegalBytesLockTheCore := by
  refine ⟨fun i b s hb => ⟨encodedAs_illegal hb, exec_of_shape (.illegal i b hb) s⟩, fun s b hn hmem hb => ?_,
    fun s vec hl => ⟨step_of_not_normal (by rw [hl]; nofun), ?_, ?_⟩⟩
  · subst hb
    obtain ⟨hlen, hill⟩ := illegalByte_decodeBytes hmem
    rw [step_of_fetch hn (fetch_of_length_one hlen), exec_of_shape (.illegal _ _ hill), endStep_next]
    rfl
  · simp [driverMove, State.wakePermitted, hl]
  · simp [driverMove, State.deliveryPermitted, hl]

/-! The driver's moves. -/

/-- `DeliverInterrupt` is permitted exactly with IME 1 in Normal or Halted (R302, R304). -/
theorem deliveryPermitted_iff (s : State) :
    s.deliveryPermitted = true ↔ s.ime = true ∧ (s.run = .normal ∨ s.run = .halted) := by
  simp only [State.deliveryPermitted, Bool.and_eq_true, Bool.or_eq_true, beq_iff_eq]

/-- `Wake` is permitted exactly in Halted and Stopped (R303). -/
theorem wakePermitted_iff (s : State) : s.wakePermitted = true ↔ s.run = .halted ∨ s.run = .stopped := by
  simp only [State.wakePermitted, Bool.or_eq_true, beq_iff_eq]

/-- A write does not look at IME, IME_pending and the run state. -/
theorem memWrite_setControl (s : State) (a : Word) (v : Byte) (ime imePending : Bool) (run : RunState) :
    memWrite { s with ime := ime, imePending := imePending, run := run } a v =
      { memWrite s a v with ime := ime, imePending := imePending, run := run } := by
  unfold memWrite
  split
  · rfl
  · rfl
  · cases he : s.ext <;> simp [extWrite, he]

/-- Taking an interrupt by what `Push16` does (R304). -/
theorem takeInterrupt_eq (vec : Word) (s : State) :
    takeInterrupt vec s = { pushed s s.pc with ime := false, imePending := false, run := .normal, pc := vec } := by
  simp only [takeInterrupt, push16_eq_pushed, pushed, memWrite_setControl]

/-- Settles O58: the move is taken exactly when it is permitted, and is `takeInterrupt` then. -/
theorem deliverInterruptPushesPCAndClearsIme : Obligations.DeliverInterruptPushesPCAndClearsIme := by
  intro s vec
  rw [← deliveryPermitted_iff, ← takeInterrupt_eq]
  exact ⟨fun h => if_pos h, fun h => ⟨if_neg h, by simp only [afterMove, driverMove, if_neg h]⟩⟩

/-- Settles O59: the move is taken exactly when it is permitted. -/
theorem wakeMakesAWaitingCoreRun : Obligations.WakeMakesAWaitingCoreRun := by
  intro s
  refine ⟨fun h => if_pos ((wakePermitted_iff s).mpr h), fun h => ?_⟩
  have hnot : ¬ s.wakePermitted = true := by
    rw [wakePermitted_iff]
    rcases h with h | h <;> simp [h]
  exact ⟨if_neg hnot, by simp only [afterMove, driverMove, if_neg hnot]⟩

/-- Settles O60: reset is `State.powerOn` at the parameters, with the memory and the port of the state. -/
theorem resetLoadsTheParametersAndKeepsMemory : Obligations.ResetLoadsTheParametersAndKeepsMemory := fun s =>
  ⟨applyReset s, rfl, rfl, rfl, rfl, rfl, rfl, rfl, rfl, rfl, rfl, rfl, rfl, rfl, rfl, rfl, rfl, rfl⟩

end Sys2Proof.Machine
end
